-- ==== Sys2Proof/Word.lean ====
section
/-! DEFINITION. The two word types of the machine: the 8-bit byte of every memory access (20_memory.md R94) and the
16-bit word of pc, sp and the register pairs (00_scope.md R7). -/

namespace Sys2Proof

/-- 8 bits: a register, a byte of memory, an immediate. -/
abbrev Byte := BitVec 8

/-- 16 bits: an address, pc, sp, a register pair. -/
abbrev Word := BitVec 16

end Sys2Proof
end

