-- ==== Sys2Proof/Config.lean ====
section
/-! DEFINITION. The free values, and the types they range over. The parameters of 00_scope.md R7 and R8 that have a default
are numbers in Sys2Proof/Machine/Cycles.lean. A free value is an `opaque` constant without a body: nothing can be proved about which
value it is (93_implementation_defined.md, "any value"). The OPEN parameters that are launch inputs (`colorMode`,
`haltBug`, …) are no constants here: they are fields of the state that no step changes, so that a statement about every
state holds for every choice of them (notes/assumptions/1.md). -/

namespace Sys2Proof

/-- One sprite entry of OAM, 60_exceptions.md R511, with its index in OAM. -/
structure Sprite where
  index : Nat
  y     : Byte
  x     : Byte
  tile  : Byte
  attr  : Byte
deriving DecidableEq, Repr, Inhabited

/-- The line state the PixelTransfer length depends on, 60_exceptions.md R505: the scroll and window registers, the line,
LCDC, and the sprites the OAM search kept (R508). -/
structure LineState where
  ly      : Byte
  lcdc    : Byte
  scx     : Byte
  wx      : Byte
  wy      : Byte
  sprites : List Sprite
deriving DecidableEq, Repr, Inhabited

/-- The four sound channels, 60_exceptions.md R530. -/
inductive Chan where
  | sweep | square | wave | noise
deriving DecidableEq, Repr, Inhabited

/-- The internal state of a sound channel, as far as 60_exceptions.md R532 and R533 name it: the length counter, the
envelope's volume (clamped to 0–15), the phase, the frequency register and the noise channel's shift register. -/
structure ApuChannel where
  length : Nat
  volume : BitVec 4
  phase  : Nat
  freq   : BitVec 11
  shift  : BitVec 15
deriving DecidableEq, Repr, Inhabited

/-- FREE VALUE. The draw of the n-th memory read: the bits of a register that are unused or write-only
(`unusedBitRead`), and every byte the spec leaves open (60_exceptions.md R451). DESIGN CHOICE (log 5), safe. -/
opaque Config.draw : Nat → Byte

/-- FREE VALUE. How far the PixelTransfer of a line is longer than 168 dots (`xferLen`, 60_exceptions.md R505).
DESIGN CHOICE (log 6), safe. -/
opaque Config.xferStall : LineState → Fin 124

/-- `xferLen` of 00_scope.md R8: a function of the line state with a result in 168..291. -/
def Config.xferLen (line : LineState) : Nat := 168 + (Config.xferStall line).val

/-- FREE VALUE. What the length counter of a channel holds after its length register is written (60_exceptions.md R532:
"reloads the length counter", with no number). DESIGN CHOICE (log 23), safe. -/
opaque Config.apuLength : Chan → Byte → Nat

/-- FREE VALUE. The envelope volume after the envelope register is written (60_exceptions.md R532). DESIGN CHOICE (log
23), safe. -/
opaque Config.apuVolume : Chan → Byte → BitVec 4

/-- FREE VALUE. The phase a trigger restarts a channel at (60_exceptions.md R532). DESIGN CHOICE (log 23), safe. -/
opaque Config.apuPhase : Chan → Nat

/-- FREE VALUE. The shift register a trigger restarts the noise channel at (60_exceptions.md R532). DESIGN CHOICE (log
23), safe. -/
opaque Config.apuShift : BitVec 15

/-- FREE VALUE. What a channel becomes when the APU is stepped by a batch of cycles, given the channel's registers
(60_exceptions.md R531, R533: summarised there, not bit-exact), once the masks let it step. DESIGN CHOICE (log 23), safe. -/
opaque Config.apuAdvance : Chan → List Byte → Nat → ApuChannel → ApuChannel

end Sys2Proof
end

