-- ==== Sys2Proof/Syntax.lean ====
section
/-! DEFINITION. The instructions as syntax: one constructor per row of spec/opcode_table.json, those with an immediate
first and each part in the table's order (the base opcodes 0x00 to 0xFF, then the prefixed opcodes 0x00 to 0xFF), and the
operand fields of 30_encoding.md R152 to R157.
`AtX` in a name is the memory operand `(X)`; an argument is an immediate of R159. -/

namespace Sys2Proof

/-- The 8-bit register operand, 30_encoding.md R152, but for the value 6, which is the memory byte at HL. -/
inductive Reg8 where
  | b | c | d | e | h | l | a
deriving DecidableEq, Repr, Inhabited

/-- The register pair `dd`/`ss`, 30_encoding.md R153. -/
inductive RegPair where
  | bc | de | hl | sp
deriving DecidableEq, Repr, Inhabited

/-- The register pair `qq` of PUSH and POP, 30_encoding.md R154. -/
inductive StackPair where
  | bc | de | hl | af
deriving DecidableEq, Repr, Inhabited

/-- The condition `cc`, 30_encoding.md R155. -/
inductive Cond where
  | nz | z | nc | c
deriving DecidableEq, Repr, Inhabited

/-- The ALU operation `op3`, 30_encoding.md R156. -/
inductive AluOp where
  | add | adc | sub | sbc | and | xor | or | cp
deriving DecidableEq, Repr, Inhabited

/-- The prefixed rotate or shift, 30_encoding.md R157. -/
inductive RotOp where
  | rlc | rrc | rl | rr | sla | sra | swap | srl
deriving DecidableEq, Repr, Inhabited

/-- One instruction with its immediate operand. -/
inductive Instr where
  /-- LD BC,d16 (01), R220. -/
  | ldBCD16 (nn : Word)
  /-- LD B,d8 (06), R202. -/
  | ldBD8 (n : Byte)
  /-- LD (a16),SP (08), R221. -/
  | ldAtA16SP (nn : Word)
  /-- LD C,d8 (0E), R202. -/
  | ldCD8 (n : Byte)
  /-- STOP (10), R422; `x` is the ignored second byte. -/
  | stop (x : Byte)
  /-- LD DE,d16 (11), R220. -/
  | ldDED16 (nn : Word)
  /-- LD D,d8 (16), R202. -/
  | ldDD8 (n : Byte)
  /-- JR e8 (18), R384. -/
  | jrE8 (e : Byte)
  /-- LD E,d8 (1E), R202. -/
  | ldED8 (n : Byte)
  /-- JR NZ,e8 (20), R385. -/
  | jrNZE8 (e : Byte)
  /-- LD HL,d16 (21), R220. -/
  | ldHLD16 (nn : Word)
  /-- LD H,d8 (26), R202. -/
  | ldHD8 (n : Byte)
  /-- JR Z,e8 (28), R385. -/
  | jrZE8 (e : Byte)
  /-- LD L,d8 (2E), R202. -/
  | ldLD8 (n : Byte)
  /-- JR NC,e8 (30), R385. -/
  | jrNCE8 (e : Byte)
  /-- LD SP,d16 (31), R220. -/
  | ldSPD16 (nn : Word)
  /-- LD (HL),d8 (36), R205. -/
  | ldAtHLD8 (n : Byte)
  /-- JR C,e8 (38), R385. -/
  | jrCE8 (e : Byte)
  /-- LD A,d8 (3E), R202. -/
  | ldAD8 (n : Byte)
  /-- JP NZ,a16 (C2), R382. -/
  | jpNZA16 (nn : Word)
  /-- JP a16 (C3), R381. -/
  | jpA16 (nn : Word)
  /-- CALL NZ,a16 (C4), R387. -/
  | callNZA16 (nn : Word)
  /-- ADD A,d8 (C6), R254. -/
  | addAD8 (n : Byte)
  /-- JP Z,a16 (CA), R382. -/
  | jpZA16 (nn : Word)
  /-- PREFIX CB (CB), R425; `op2` is the second byte. -/
  | prefixCB (op2 : Byte)
  /-- CALL Z,a16 (CC), R387. -/
  | callZA16 (nn : Word)
  /-- CALL a16 (CD), R386. -/
  | callA16 (nn : Word)
  /-- ADC A,d8 (CE), R258. -/
  | adcAD8 (n : Byte)
  /-- JP NC,a16 (D2), R382. -/
  | jpNCA16 (nn : Word)
  /-- CALL NC,a16 (D4), R387. -/
  | callNCA16 (nn : Word)
  /-- SUB d8 (D6), R262. -/
  | subD8 (n : Byte)
  /-- JP C,a16 (DA), R382. -/
  | jpCA16 (nn : Word)
  /-- CALL C,a16 (DC), R387. -/
  | callCA16 (nn : Word)
  /-- SBC A,d8 (DE), R266. -/
  | sbcAD8 (n : Byte)
  /-- LDH (a8),A (E0), R213. -/
  | ldhAtA8A (n : Byte)
  /-- AND d8 (E6), R270. -/
  | andD8 (n : Byte)
  /-- ADD SP,e8 (E8), R304. -/
  | addSPE8 (e : Byte)
  /-- LD (a16),A (EA), R211. -/
  | ldAtA16A (nn : Word)
  /-- XOR d8 (EE), R274. -/
  | xorD8 (n : Byte)
  /-- LDH A,(a8) (F0), R212. -/
  | ldhAAtA8 (n : Byte)
  /-- OR d8 (F6), R278. -/
  | orD8 (n : Byte)
  /-- LD HL,SP+e8 (F8), R305. -/
  | ldHLSPE8 (e : Byte)
  /-- LD A,(a16) (FA), R210. -/
  | ldAAtA16 (nn : Word)
  /-- CP d8 (FE), R282. -/
  | cpD8 (n : Byte)
  /-- NOP (00), R420. -/
  | nop
  /-- LD (BC),A (02), R208. -/
  | ldAtBCA
  /-- INC BC (03), R301. -/
  | incBC
  /-- INC B (04), R283. -/
  | incB
  /-- DEC B (05), R285. -/
  | decB
  /-- RLCA (07), R331. -/
  | rlca
  /-- ADD HL,BC (09), R303. -/
  | addHLBC
  /-- LD A,(BC) (0A), R206. -/
  | ldAAtBC
  /-- DEC BC (0B), R302. -/
  | decBC
  /-- INC C (0C), R283. -/
  | incC
  /-- DEC C (0D), R285. -/
  | decC
  /-- RRCA (0F), R332. -/
  | rrca
  /-- LD (DE),A (12), R209. -/
  | ldAtDEA
  /-- INC DE (13), R301. -/
  | incDE
  /-- INC D (14), R283. -/
  | incD
  /-- DEC D (15), R285. -/
  | decD
  /-- RLA (17), R333. -/
  | rla
  /-- ADD HL,DE (19), R303. -/
  | addHLDE
  /-- LD A,(DE) (1A), R207. -/
  | ldAAtDE
  /-- DEC DE (1B), R302. -/
  | decDE
  /-- INC E (1C), R283. -/
  | incE
  /-- DEC E (1D), R285. -/
  | decE
  /-- RRA (1F), R334. -/
  | rra
  /-- LD (HL+),A (22), R218. -/
  | ldAtHLIncA
  /-- INC HL (23), R301. -/
  | incHL
  /-- INC H (24), R283. -/
  | incH
  /-- DEC H (25), R285. -/
  | decH
  /-- DAA (27), R287. -/
  | daa
  /-- ADD HL,HL (29), R303. -/
  | addHLHL
  /-- LD A,(HL+) (2A), R216. -/
  | ldAAtHLInc
  /-- DEC HL (2B), R302. -/
  | decHL
  /-- INC L (2C), R283. -/
  | incL
  /-- DEC L (2D), R285. -/
  | decL
  /-- CPL (2F), R288. -/
  | cpl
  /-- LD (HL-),A (32), R219. -/
  | ldAtHLDecA
  /-- INC SP (33), R301. -/
  | incSP
  /-- INC (HL) (34), R284. -/
  | incAtHL
  /-- DEC (HL) (35), R286. -/
  | decAtHL
  /-- SCF (37), R289. -/
  | scf
  /-- ADD HL,SP (39), R303. -/
  | addHLSP
  /-- LD A,(HL-) (3A), R217. -/
  | ldAAtHLDec
  /-- DEC SP (3B), R302. -/
  | decSP
  /-- INC A (3C), R283. -/
  | incA
  /-- DEC A (3D), R285. -/
  | decA
  /-- CCF (3F), R290. -/
  | ccf
  /-- LD B,B (40), R201. -/
  | ldBB
  /-- LD B,C (41), R201. -/
  | ldBC
  /-- LD B,D (42), R201. -/
  | ldBD
  /-- LD B,E (43), R201. -/
  | ldBE
  /-- LD B,H (44), R201. -/
  | ldBH
  /-- LD B,L (45), R201. -/
  | ldBL
  /-- LD B,(HL) (46), R203. -/
  | ldBAtHL
  /-- LD B,A (47), R201. -/
  | ldBA
  /-- LD C,B (48), R201. -/
  | ldCB
  /-- LD C,C (49), R201. -/
  | ldCC
  /-- LD C,D (4A), R201. -/
  | ldCD
  /-- LD C,E (4B), R201. -/
  | ldCE
  /-- LD C,H (4C), R201. -/
  | ldCH
  /-- LD C,L (4D), R201. -/
  | ldCL
  /-- LD C,(HL) (4E), R203. -/
  | ldCAtHL
  /-- LD C,A (4F), R201. -/
  | ldCA
  /-- LD D,B (50), R201. -/
  | ldDB
  /-- LD D,C (51), R201. -/
  | ldDC
  /-- LD D,D (52), R201. -/
  | ldDD
  /-- LD D,E (53), R201. -/
  | ldDE
  /-- LD D,H (54), R201. -/
  | ldDH
  /-- LD D,L (55), R201. -/
  | ldDL
  /-- LD D,(HL) (56), R203. -/
  | ldDAtHL
  /-- LD D,A (57), R201. -/
  | ldDA
  /-- LD E,B (58), R201. -/
  | ldEB
  /-- LD E,C (59), R201. -/
  | ldEC
  /-- LD E,D (5A), R201. -/
  | ldED
  /-- LD E,E (5B), R201. -/
  | ldEE
  /-- LD E,H (5C), R201. -/
  | ldEH
  /-- LD E,L (5D), R201. -/
  | ldEL
  /-- LD E,(HL) (5E), R203. -/
  | ldEAtHL
  /-- LD E,A (5F), R201. -/
  | ldEA
  /-- LD H,B (60), R201. -/
  | ldHB
  /-- LD H,C (61), R201. -/
  | ldHC
  /-- LD H,D (62), R201. -/
  | ldHD
  /-- LD H,E (63), R201. -/
  | ldHE
  /-- LD H,H (64), R201. -/
  | ldHH
  /-- LD H,L (65), R201. -/
  | ldHL
  /-- LD H,(HL) (66), R203. -/
  | ldHAtHL
  /-- LD H,A (67), R201. -/
  | ldHA
  /-- LD L,B (68), R201. -/
  | ldLB
  /-- LD L,C (69), R201. -/
  | ldLC
  /-- LD L,D (6A), R201. -/
  | ldLD
  /-- LD L,E (6B), R201. -/
  | ldLE
  /-- LD L,H (6C), R201. -/
  | ldLH
  /-- LD L,L (6D), R201. -/
  | ldLL
  /-- LD L,(HL) (6E), R203. -/
  | ldLAtHL
  /-- LD L,A (6F), R201. -/
  | ldLA
  /-- LD (HL),B (70), R204. -/
  | ldAtHLB
  /-- LD (HL),C (71), R204. -/
  | ldAtHLC
  /-- LD (HL),D (72), R204. -/
  | ldAtHLD
  /-- LD (HL),E (73), R204. -/
  | ldAtHLE
  /-- LD (HL),H (74), R204. -/
  | ldAtHLH
  /-- LD (HL),L (75), R204. -/
  | ldAtHLL
  /-- HALT (76), R421. -/
  | halt
  /-- LD (HL),A (77), R204. -/
  | ldAtHLA
  /-- LD A,B (78), R201. -/
  | ldAB
  /-- LD A,C (79), R201. -/
  | ldAC
  /-- LD A,D (7A), R201. -/
  | ldAD
  /-- LD A,E (7B), R201. -/
  | ldAE
  /-- LD A,H (7C), R201. -/
  | ldAH
  /-- LD A,L (7D), R201. -/
  | ldAL
  /-- LD A,(HL) (7E), R203. -/
  | ldAAtHL
  /-- LD A,A (7F), R201. -/
  | ldAA
  /-- ADD A,B (80), R252. -/
  | addAB
  /-- ADD A,C (81), R252. -/
  | addAC
  /-- ADD A,D (82), R252. -/
  | addAD
  /-- ADD A,E (83), R252. -/
  | addAE
  /-- ADD A,H (84), R252. -/
  | addAH
  /-- ADD A,L (85), R252. -/
  | addAL
  /-- ADD A,(HL) (86), R253. -/
  | addAAtHL
  /-- ADD A,A (87), R252. -/
  | addAA
  /-- ADC A,B (88), R256. -/
  | adcAB
  /-- ADC A,C (89), R256. -/
  | adcAC
  /-- ADC A,D (8A), R256. -/
  | adcAD
  /-- ADC A,E (8B), R256. -/
  | adcAE
  /-- ADC A,H (8C), R256. -/
  | adcAH
  /-- ADC A,L (8D), R256. -/
  | adcAL
  /-- ADC A,(HL) (8E), R257. -/
  | adcAAtHL
  /-- ADC A,A (8F), R256. -/
  | adcAA
  /-- SUB B (90), R260. -/
  | subB
  /-- SUB C (91), R260. -/
  | subC
  /-- SUB D (92), R260. -/
  | subD
  /-- SUB E (93), R260. -/
  | subE
  /-- SUB H (94), R260. -/
  | subH
  /-- SUB L (95), R260. -/
  | subL
  /-- SUB (HL) (96), R261. -/
  | subAtHL
  /-- SUB A (97), R260. -/
  | subA
  /-- SBC A,B (98), R264. -/
  | sbcAB
  /-- SBC A,C (99), R264. -/
  | sbcAC
  /-- SBC A,D (9A), R264. -/
  | sbcAD
  /-- SBC A,E (9B), R264. -/
  | sbcAE
  /-- SBC A,H (9C), R264. -/
  | sbcAH
  /-- SBC A,L (9D), R264. -/
  | sbcAL
  /-- SBC A,(HL) (9E), R265. -/
  | sbcAAtHL
  /-- SBC A,A (9F), R264. -/
  | sbcAA
  /-- AND B (A0), R268. -/
  | andB
  /-- AND C (A1), R268. -/
  | andC
  /-- AND D (A2), R268. -/
  | andD
  /-- AND E (A3), R268. -/
  | andE
  /-- AND H (A4), R268. -/
  | andH
  /-- AND L (A5), R268. -/
  | andL
  /-- AND (HL) (A6), R269. -/
  | andAtHL
  /-- AND A (A7), R268. -/
  | andA
  /-- XOR B (A8), R272. -/
  | xorB
  /-- XOR C (A9), R272. -/
  | xorC
  /-- XOR D (AA), R272. -/
  | xorD
  /-- XOR E (AB), R272. -/
  | xorE
  /-- XOR H (AC), R272. -/
  | xorH
  /-- XOR L (AD), R272. -/
  | xorL
  /-- XOR (HL) (AE), R273. -/
  | xorAtHL
  /-- XOR A (AF), R272. -/
  | xorA
  /-- OR B (B0), R276. -/
  | orB
  /-- OR C (B1), R276. -/
  | orC
  /-- OR D (B2), R276. -/
  | orD
  /-- OR E (B3), R276. -/
  | orE
  /-- OR H (B4), R276. -/
  | orH
  /-- OR L (B5), R276. -/
  | orL
  /-- OR (HL) (B6), R277. -/
  | orAtHL
  /-- OR A (B7), R276. -/
  | orA
  /-- CP B (B8), R280. -/
  | cpB
  /-- CP C (B9), R280. -/
  | cpC
  /-- CP D (BA), R280. -/
  | cpD
  /-- CP E (BB), R280. -/
  | cpE
  /-- CP H (BC), R280. -/
  | cpH
  /-- CP L (BD), R280. -/
  | cpL
  /-- CP (HL) (BE), R281. -/
  | cpAtHL
  /-- CP A (BF), R280. -/
  | cpA
  /-- RET NZ (C0), R389. -/
  | retNZ
  /-- POP BC (C1), R224. -/
  | popBC
  /-- PUSH BC (C5), R223. -/
  | pushBC
  /-- RST 00H (C7), R391. -/
  | rst00H
  /-- RET Z (C8), R389. -/
  | retZ
  /-- RET (C9), R388. -/
  | ret
  /-- RST 08H (CF), R391. -/
  | rst08H
  /-- RET NC (D0), R389. -/
  | retNC
  /-- POP DE (D1), R224. -/
  | popDE
  /-- (illegal D3) (D3), R426. -/
  | illegalD3
  /-- PUSH DE (D5), R223. -/
  | pushDE
  /-- RST 10H (D7), R391. -/
  | rst10H
  /-- RET C (D8), R389. -/
  | retC
  /-- RETI (D9), R390. -/
  | reti
  /-- (illegal DB) (DB), R426. -/
  | illegalDB
  /-- (illegal DD) (DD), R426. -/
  | illegalDD
  /-- RST 18H (DF), R391. -/
  | rst18H
  /-- POP HL (E1), R224. -/
  | popHL
  /-- LD (C),A (E2), R215. -/
  | ldAtCA
  /-- (illegal E3) (E3), R426. -/
  | illegalE3
  /-- (illegal E4) (E4), R426. -/
  | illegalE4
  /-- PUSH HL (E5), R223. -/
  | pushHL
  /-- RST 20H (E7), R391. -/
  | rst20H
  /-- JP HL (E9), R383. -/
  | jpHL
  /-- (illegal EB) (EB), R426. -/
  | illegalEB
  /-- (illegal EC) (EC), R426. -/
  | illegalEC
  /-- (illegal ED) (ED), R426. -/
  | illegalED
  /-- RST 28H (EF), R391. -/
  | rst28H
  /-- POP AF (F1), R224. -/
  | popAF
  /-- LD A,(C) (F2), R214. -/
  | ldAAtC
  /-- DI (F3), R423. -/
  | di
  /-- (illegal F4) (F4), R426. -/
  | illegalF4
  /-- PUSH AF (F5), R223. -/
  | pushAF
  /-- RST 30H (F7), R391. -/
  | rst30H
  /-- LD SP,HL (F9), R222. -/
  | ldSPHL
  /-- EI (FB), R424. -/
  | ei
  /-- (illegal FC) (FC), R426. -/
  | illegalFC
  /-- (illegal FD) (FD), R426. -/
  | illegalFD
  /-- RST 38H (FF), R391. -/
  | rst38H
  /-- RLC B (CB 00), R336. -/
  | rlcB
  /-- RLC C (CB 01), R336. -/
  | rlcC
  /-- RLC D (CB 02), R336. -/
  | rlcD
  /-- RLC E (CB 03), R336. -/
  | rlcE
  /-- RLC H (CB 04), R336. -/
  | rlcH
  /-- RLC L (CB 05), R336. -/
  | rlcL
  /-- RLC (HL) (CB 06), R337. -/
  | rlcAtHL
  /-- RLC A (CB 07), R336. -/
  | rlcA
  /-- RRC B (CB 08), R339. -/
  | rrcB
  /-- RRC C (CB 09), R339. -/
  | rrcC
  /-- RRC D (CB 0A), R339. -/
  | rrcD
  /-- RRC E (CB 0B), R339. -/
  | rrcE
  /-- RRC H (CB 0C), R339. -/
  | rrcH
  /-- RRC L (CB 0D), R339. -/
  | rrcL
  /-- RRC (HL) (CB 0E), R340. -/
  | rrcAtHL
  /-- RRC A (CB 0F), R339. -/
  | rrcA
  /-- RL B (CB 10), R342. -/
  | rlB
  /-- RL C (CB 11), R342. -/
  | rlC
  /-- RL D (CB 12), R342. -/
  | rlD
  /-- RL E (CB 13), R342. -/
  | rlE
  /-- RL H (CB 14), R342. -/
  | rlH
  /-- RL L (CB 15), R342. -/
  | rlL
  /-- RL (HL) (CB 16), R343. -/
  | rlAtHL
  /-- RL A (CB 17), R342. -/
  | rlA
  /-- RR B (CB 18), R345. -/
  | rrB
  /-- RR C (CB 19), R345. -/
  | rrC
  /-- RR D (CB 1A), R345. -/
  | rrD
  /-- RR E (CB 1B), R345. -/
  | rrE
  /-- RR H (CB 1C), R345. -/
  | rrH
  /-- RR L (CB 1D), R345. -/
  | rrL
  /-- RR (HL) (CB 1E), R346. -/
  | rrAtHL
  /-- RR A (CB 1F), R345. -/
  | rrA
  /-- SLA B (CB 20), R348. -/
  | slaB
  /-- SLA C (CB 21), R348. -/
  | slaC
  /-- SLA D (CB 22), R348. -/
  | slaD
  /-- SLA E (CB 23), R348. -/
  | slaE
  /-- SLA H (CB 24), R348. -/
  | slaH
  /-- SLA L (CB 25), R348. -/
  | slaL
  /-- SLA (HL) (CB 26), R349. -/
  | slaAtHL
  /-- SLA A (CB 27), R348. -/
  | slaA
  /-- SRA B (CB 28), R351. -/
  | sraB
  /-- SRA C (CB 29), R351. -/
  | sraC
  /-- SRA D (CB 2A), R351. -/
  | sraD
  /-- SRA E (CB 2B), R351. -/
  | sraE
  /-- SRA H (CB 2C), R351. -/
  | sraH
  /-- SRA L (CB 2D), R351. -/
  | sraL
  /-- SRA (HL) (CB 2E), R352. -/
  | sraAtHL
  /-- SRA A (CB 2F), R351. -/
  | sraA
  /-- SWAP B (CB 30), R354. -/
  | swapB
  /-- SWAP C (CB 31), R354. -/
  | swapC
  /-- SWAP D (CB 32), R354. -/
  | swapD
  /-- SWAP E (CB 33), R354. -/
  | swapE
  /-- SWAP H (CB 34), R354. -/
  | swapH
  /-- SWAP L (CB 35), R354. -/
  | swapL
  /-- SWAP (HL) (CB 36), R355. -/
  | swapAtHL
  /-- SWAP A (CB 37), R354. -/
  | swapA
  /-- SRL B (CB 38), R357. -/
  | srlB
  /-- SRL C (CB 39), R357. -/
  | srlC
  /-- SRL D (CB 3A), R357. -/
  | srlD
  /-- SRL E (CB 3B), R357. -/
  | srlE
  /-- SRL H (CB 3C), R357. -/
  | srlH
  /-- SRL L (CB 3D), R357. -/
  | srlL
  /-- SRL (HL) (CB 3E), R358. -/
  | srlAtHL
  /-- SRL A (CB 3F), R357. -/
  | srlA
  /-- BIT 0,B (CB 40), R359. -/
  | bit0B
  /-- BIT 0,C (CB 41), R359. -/
  | bit0C
  /-- BIT 0,D (CB 42), R359. -/
  | bit0D
  /-- BIT 0,E (CB 43), R359. -/
  | bit0E
  /-- BIT 0,H (CB 44), R359. -/
  | bit0H
  /-- BIT 0,L (CB 45), R359. -/
  | bit0L
  /-- BIT 0,(HL) (CB 46), R360. -/
  | bit0AtHL
  /-- BIT 0,A (CB 47), R359. -/
  | bit0A
  /-- BIT 1,B (CB 48), R359. -/
  | bit1B
  /-- BIT 1,C (CB 49), R359. -/
  | bit1C
  /-- BIT 1,D (CB 4A), R359. -/
  | bit1D
  /-- BIT 1,E (CB 4B), R359. -/
  | bit1E
  /-- BIT 1,H (CB 4C), R359. -/
  | bit1H
  /-- BIT 1,L (CB 4D), R359. -/
  | bit1L
  /-- BIT 1,(HL) (CB 4E), R360. -/
  | bit1AtHL
  /-- BIT 1,A (CB 4F), R359. -/
  | bit1A
  /-- BIT 2,B (CB 50), R359. -/
  | bit2B
  /-- BIT 2,C (CB 51), R359. -/
  | bit2C
  /-- BIT 2,D (CB 52), R359. -/
  | bit2D
  /-- BIT 2,E (CB 53), R359. -/
  | bit2E
  /-- BIT 2,H (CB 54), R359. -/
  | bit2H
  /-- BIT 2,L (CB 55), R359. -/
  | bit2L
  /-- BIT 2,(HL) (CB 56), R360. -/
  | bit2AtHL
  /-- BIT 2,A (CB 57), R359. -/
  | bit2A
  /-- BIT 3,B (CB 58), R359. -/
  | bit3B
  /-- BIT 3,C (CB 59), R359. -/
  | bit3C
  /-- BIT 3,D (CB 5A), R359. -/
  | bit3D
  /-- BIT 3,E (CB 5B), R359. -/
  | bit3E
  /-- BIT 3,H (CB 5C), R359. -/
  | bit3H
  /-- BIT 3,L (CB 5D), R359. -/
  | bit3L
  /-- BIT 3,(HL) (CB 5E), R360. -/
  | bit3AtHL
  /-- BIT 3,A (CB 5F), R359. -/
  | bit3A
  /-- BIT 4,B (CB 60), R359. -/
  | bit4B
  /-- BIT 4,C (CB 61), R359. -/
  | bit4C
  /-- BIT 4,D (CB 62), R359. -/
  | bit4D
  /-- BIT 4,E (CB 63), R359. -/
  | bit4E
  /-- BIT 4,H (CB 64), R359. -/
  | bit4H
  /-- BIT 4,L (CB 65), R359. -/
  | bit4L
  /-- BIT 4,(HL) (CB 66), R360. -/
  | bit4AtHL
  /-- BIT 4,A (CB 67), R359. -/
  | bit4A
  /-- BIT 5,B (CB 68), R359. -/
  | bit5B
  /-- BIT 5,C (CB 69), R359. -/
  | bit5C
  /-- BIT 5,D (CB 6A), R359. -/
  | bit5D
  /-- BIT 5,E (CB 6B), R359. -/
  | bit5E
  /-- BIT 5,H (CB 6C), R359. -/
  | bit5H
  /-- BIT 5,L (CB 6D), R359. -/
  | bit5L
  /-- BIT 5,(HL) (CB 6E), R360. -/
  | bit5AtHL
  /-- BIT 5,A (CB 6F), R359. -/
  | bit5A
  /-- BIT 6,B (CB 70), R359. -/
  | bit6B
  /-- BIT 6,C (CB 71), R359. -/
  | bit6C
  /-- BIT 6,D (CB 72), R359. -/
  | bit6D
  /-- BIT 6,E (CB 73), R359. -/
  | bit6E
  /-- BIT 6,H (CB 74), R359. -/
  | bit6H
  /-- BIT 6,L (CB 75), R359. -/
  | bit6L
  /-- BIT 6,(HL) (CB 76), R360. -/
  | bit6AtHL
  /-- BIT 6,A (CB 77), R359. -/
  | bit6A
  /-- BIT 7,B (CB 78), R359. -/
  | bit7B
  /-- BIT 7,C (CB 79), R359. -/
  | bit7C
  /-- BIT 7,D (CB 7A), R359. -/
  | bit7D
  /-- BIT 7,E (CB 7B), R359. -/
  | bit7E
  /-- BIT 7,H (CB 7C), R359. -/
  | bit7H
  /-- BIT 7,L (CB 7D), R359. -/
  | bit7L
  /-- BIT 7,(HL) (CB 7E), R360. -/
  | bit7AtHL
  /-- BIT 7,A (CB 7F), R359. -/
  | bit7A
  /-- RES 0,B (CB 80), R361. -/
  | res0B
  /-- RES 0,C (CB 81), R361. -/
  | res0C
  /-- RES 0,D (CB 82), R361. -/
  | res0D
  /-- RES 0,E (CB 83), R361. -/
  | res0E
  /-- RES 0,H (CB 84), R361. -/
  | res0H
  /-- RES 0,L (CB 85), R361. -/
  | res0L
  /-- RES 0,(HL) (CB 86), R362. -/
  | res0AtHL
  /-- RES 0,A (CB 87), R361. -/
  | res0A
  /-- RES 1,B (CB 88), R361. -/
  | res1B
  /-- RES 1,C (CB 89), R361. -/
  | res1C
  /-- RES 1,D (CB 8A), R361. -/
  | res1D
  /-- RES 1,E (CB 8B), R361. -/
  | res1E
  /-- RES 1,H (CB 8C), R361. -/
  | res1H
  /-- RES 1,L (CB 8D), R361. -/
  | res1L
  /-- RES 1,(HL) (CB 8E), R362. -/
  | res1AtHL
  /-- RES 1,A (CB 8F), R361. -/
  | res1A
  /-- RES 2,B (CB 90), R361. -/
  | res2B
  /-- RES 2,C (CB 91), R361. -/
  | res2C
  /-- RES 2,D (CB 92), R361. -/
  | res2D
  /-- RES 2,E (CB 93), R361. -/
  | res2E
  /-- RES 2,H (CB 94), R361. -/
  | res2H
  /-- RES 2,L (CB 95), R361. -/
  | res2L
  /-- RES 2,(HL) (CB 96), R362. -/
  | res2AtHL
  /-- RES 2,A (CB 97), R361. -/
  | res2A
  /-- RES 3,B (CB 98), R361. -/
  | res3B
  /-- RES 3,C (CB 99), R361. -/
  | res3C
  /-- RES 3,D (CB 9A), R361. -/
  | res3D
  /-- RES 3,E (CB 9B), R361. -/
  | res3E
  /-- RES 3,H (CB 9C), R361. -/
  | res3H
  /-- RES 3,L (CB 9D), R361. -/
  | res3L
  /-- RES 3,(HL) (CB 9E), R362. -/
  | res3AtHL
  /-- RES 3,A (CB 9F), R361. -/
  | res3A
  /-- RES 4,B (CB A0), R361. -/
  | res4B
  /-- RES 4,C (CB A1), R361. -/
  | res4C
  /-- RES 4,D (CB A2), R361. -/
  | res4D
  /-- RES 4,E (CB A3), R361. -/
  | res4E
  /-- RES 4,H (CB A4), R361. -/
  | res4H
  /-- RES 4,L (CB A5), R361. -/
  | res4L
  /-- RES 4,(HL) (CB A6), R362. -/
  | res4AtHL
  /-- RES 4,A (CB A7), R361. -/
  | res4A
  /-- RES 5,B (CB A8), R361. -/
  | res5B
  /-- RES 5,C (CB A9), R361. -/
  | res5C
  /-- RES 5,D (CB AA), R361. -/
  | res5D
  /-- RES 5,E (CB AB), R361. -/
  | res5E
  /-- RES 5,H (CB AC), R361. -/
  | res5H
  /-- RES 5,L (CB AD), R361. -/
  | res5L
  /-- RES 5,(HL) (CB AE), R362. -/
  | res5AtHL
  /-- RES 5,A (CB AF), R361. -/
  | res5A
  /-- RES 6,B (CB B0), R361. -/
  | res6B
  /-- RES 6,C (CB B1), R361. -/
  | res6C
  /-- RES 6,D (CB B2), R361. -/
  | res6D
  /-- RES 6,E (CB B3), R361. -/
  | res6E
  /-- RES 6,H (CB B4), R361. -/
  | res6H
  /-- RES 6,L (CB B5), R361. -/
  | res6L
  /-- RES 6,(HL) (CB B6), R362. -/
  | res6AtHL
  /-- RES 6,A (CB B7), R361. -/
  | res6A
  /-- RES 7,B (CB B8), R361. -/
  | res7B
  /-- RES 7,C (CB B9), R361. -/
  | res7C
  /-- RES 7,D (CB BA), R361. -/
  | res7D
  /-- RES 7,E (CB BB), R361. -/
  | res7E
  /-- RES 7,H (CB BC), R361. -/
  | res7H
  /-- RES 7,L (CB BD), R361. -/
  | res7L
  /-- RES 7,(HL) (CB BE), R362. -/
  | res7AtHL
  /-- RES 7,A (CB BF), R361. -/
  | res7A
  /-- SET 0,B (CB C0), R363. -/
  | set0B
  /-- SET 0,C (CB C1), R363. -/
  | set0C
  /-- SET 0,D (CB C2), R363. -/
  | set0D
  /-- SET 0,E (CB C3), R363. -/
  | set0E
  /-- SET 0,H (CB C4), R363. -/
  | set0H
  /-- SET 0,L (CB C5), R363. -/
  | set0L
  /-- SET 0,(HL) (CB C6), R364. -/
  | set0AtHL
  /-- SET 0,A (CB C7), R363. -/
  | set0A
  /-- SET 1,B (CB C8), R363. -/
  | set1B
  /-- SET 1,C (CB C9), R363. -/
  | set1C
  /-- SET 1,D (CB CA), R363. -/
  | set1D
  /-- SET 1,E (CB CB), R363. -/
  | set1E
  /-- SET 1,H (CB CC), R363. -/
  | set1H
  /-- SET 1,L (CB CD), R363. -/
  | set1L
  /-- SET 1,(HL) (CB CE), R364. -/
  | set1AtHL
  /-- SET 1,A (CB CF), R363. -/
  | set1A
  /-- SET 2,B (CB D0), R363. -/
  | set2B
  /-- SET 2,C (CB D1), R363. -/
  | set2C
  /-- SET 2,D (CB D2), R363. -/
  | set2D
  /-- SET 2,E (CB D3), R363. -/
  | set2E
  /-- SET 2,H (CB D4), R363. -/
  | set2H
  /-- SET 2,L (CB D5), R363. -/
  | set2L
  /-- SET 2,(HL) (CB D6), R364. -/
  | set2AtHL
  /-- SET 2,A (CB D7), R363. -/
  | set2A
  /-- SET 3,B (CB D8), R363. -/
  | set3B
  /-- SET 3,C (CB D9), R363. -/
  | set3C
  /-- SET 3,D (CB DA), R363. -/
  | set3D
  /-- SET 3,E (CB DB), R363. -/
  | set3E
  /-- SET 3,H (CB DC), R363. -/
  | set3H
  /-- SET 3,L (CB DD), R363. -/
  | set3L
  /-- SET 3,(HL) (CB DE), R364. -/
  | set3AtHL
  /-- SET 3,A (CB DF), R363. -/
  | set3A
  /-- SET 4,B (CB E0), R363. -/
  | set4B
  /-- SET 4,C (CB E1), R363. -/
  | set4C
  /-- SET 4,D (CB E2), R363. -/
  | set4D
  /-- SET 4,E (CB E3), R363. -/
  | set4E
  /-- SET 4,H (CB E4), R363. -/
  | set4H
  /-- SET 4,L (CB E5), R363. -/
  | set4L
  /-- SET 4,(HL) (CB E6), R364. -/
  | set4AtHL
  /-- SET 4,A (CB E7), R363. -/
  | set4A
  /-- SET 5,B (CB E8), R363. -/
  | set5B
  /-- SET 5,C (CB E9), R363. -/
  | set5C
  /-- SET 5,D (CB EA), R363. -/
  | set5D
  /-- SET 5,E (CB EB), R363. -/
  | set5E
  /-- SET 5,H (CB EC), R363. -/
  | set5H
  /-- SET 5,L (CB ED), R363. -/
  | set5L
  /-- SET 5,(HL) (CB EE), R364. -/
  | set5AtHL
  /-- SET 5,A (CB EF), R363. -/
  | set5A
  /-- SET 6,B (CB F0), R363. -/
  | set6B
  /-- SET 6,C (CB F1), R363. -/
  | set6C
  /-- SET 6,D (CB F2), R363. -/
  | set6D
  /-- SET 6,E (CB F3), R363. -/
  | set6E
  /-- SET 6,H (CB F4), R363. -/
  | set6H
  /-- SET 6,L (CB F5), R363. -/
  | set6L
  /-- SET 6,(HL) (CB F6), R364. -/
  | set6AtHL
  /-- SET 6,A (CB F7), R363. -/
  | set6A
  /-- SET 7,B (CB F8), R363. -/
  | set7B
  /-- SET 7,C (CB F9), R363. -/
  | set7C
  /-- SET 7,D (CB FA), R363. -/
  | set7D
  /-- SET 7,E (CB FB), R363. -/
  | set7E
  /-- SET 7,H (CB FC), R363. -/
  | set7H
  /-- SET 7,L (CB FD), R363. -/
  | set7L
  /-- SET 7,(HL) (CB FE), R364. -/
  | set7AtHL
  /-- SET 7,A (CB FF), R363. -/
  | set7A
deriving DecidableEq, Repr

end Sys2Proof
end

