-- ==== Sys2Proof/Machine/State.lean ====
section
/-! DEFINITION. The state of the machine, as plain data: the core (10_state.md R51), the memory arrays (20_memory.md R80),
the bank controller (20_memory.md R107), the devices as the core observes them (60_exceptions.md), the launch parameters
(00_scope.md R8), and the model's own counters; then the reasons a step stops, and the state after reset
(70_reset_and_hazards.md R600 to R603). -/

namespace Sys2Proof.Machine

/-- The general registers but for F, 10_state.md R30. -/
structure Regs where
  a : Byte
  b : Byte
  c : Byte
  d : Byte
  e : Byte
  h : Byte
  l : Byte
deriving DecidableEq, Repr

/-- The four flags of F, 10_state.md R33. F bits 3 to 0 always read 0 (R32): they have no storage. -/
structure Flags where
  z  : Bool
  n  : Bool
  h  : Bool
  cy : Bool
deriving DecidableEq, Repr

/-- Which way an access goes, 60_exceptions.md R470. -/
inductive AccessKind where
  | read | write
deriving DecidableEq, Repr

/-- The closed set of fault reasons, 00_scope.md R14 and 60_exceptions.md R470, as the fault record of 10_state.md R49
holds them. -/
inductive FaultReason where
  | illegalOpcode (op : Byte) (addr : Word)
  | undefinedIo (addr : Word) (kind : AccessKind)
  | unmodelledStop (addr : Word)
  | dmaSourceUnmodelled (page : Byte)
  | cartridgeConfig (byte : Byte)
deriving DecidableEq, Repr

/-- The five real-time-clock bytes of MBC3, 20_memory.md R111. -/
structure Rtc where
  seconds : Byte
  minutes : Byte
  hours   : Byte
  dayLow  : Byte
  dayHigh : Byte
deriving DecidableEq, Repr

/-- The bank controller and its state, 20_memory.md R107 to R112. -/
inductive Mapper where
  /-- R108: no state; the ROM bank is always 1 -/
  | romOnly
  /-- R109 -/
  | mbc1 (low5 : BitVec 5) (high2 : BitVec 2) (mode : Bool) (ramEnable : Bool)
  /-- R110: the ROM bank as stored after the zero remap -/
  | mbc2 (bank : BitVec 4) (ramEnable : Bool)
  /-- R111: the ROM bank as stored after the zero remap, the RAM-bank/RTC selector, the clock bytes -/
  | mbc3 (bank : BitVec 5) (sel : Byte) (ramEnable : Bool) (rtc : Rtc)
  /-- R112 -/
  | mbc5 (bank : BitVec 9) (ramBank : BitVec 4) (ramEnable : Bool)
deriving DecidableEq, Repr

/-- The cartridge: the controller, the number of 16 KB banks of the image and the bytes of external RAM (20_memory.md
R106, R107). The image itself is in memory. -/
structure Cart where
  mapper   : Mapper
  romBanks : Nat
  ramBytes : Nat
deriving DecidableEq, Repr

/-- The timer, 60_exceptions.md R480. -/
structure Timer where
  div     : Byte
  divSub  : Byte
  tima    : Byte
  tma     : Byte
  tac     : BitVec 3
  timaSub : BitVec 10
deriving DecidableEq, Repr

/-- The running OAM transfer, 60_exceptions.md R487: the source page and how many bytes have moved. -/
structure OamXfer where
  page  : Byte
  index : Nat
deriving DecidableEq, Repr

/-- The two VRAM transfers, 60_exceptions.md R494 and R495. -/
inductive VramKind where
  | general | hblank
deriving DecidableEq, Repr

/-- The running VRAM transfer, 60_exceptions.md R487. -/
structure VramXfer where
  kind      : VramKind
  src       : Word
  dst       : Word
  remaining : BitVec 16
  lineCount : Nat
deriving DecidableEq, Repr

/-- The DMA engine, 60_exceptions.md R487 and R493. -/
structure Dma where
  oam    : Option OamXfer
  dmaReg : Byte
  vram   : Option VramXfer
  hdma1  : Byte
  hdma2  : Byte
  hdma3  : Byte
  hdma4  : Byte
deriving DecidableEq, Repr

/-- The PPU's modes, 60_exceptions.md R504. -/
inductive PpuMode where
  | hblank | vblank | oamSearch | pixelTransfer
deriving DecidableEq, Repr

/-- A colour palette index register (BCPS or OCPS), 60_exceptions.md R514. -/
structure PalIndex where
  index : BitVec 6
  auto  : Bool
deriving DecidableEq, Repr

/-- The PPU as the core observes it, 60_exceptions.md R500 to R518. -/
structure Ppu where
  lcdc        : Byte
  /-- STAT bits 6 to 3: LYC, OamSearch, VBlank, HBlank enable -/
  statEnables : BitVec 4
  mode        : PpuMode
  ly          : Byte
  dot         : Nat
  /-- the PixelTransfer length of the line, fixed when it begins -/
  xfer        : Nat
  /-- a write of LYC has made LY = LYC true since the PPU's last step (log 14) -/
  lycRose     : Bool
  lyc         : Byte
  scy         : Byte
  scx         : Byte
  wy          : Byte
  wx          : Byte
  bgp         : Byte
  obp0        : Byte
  obp1        : Byte
  vbk         : Bool
  bcps        : PalIndex
  ocps        : PalIndex
deriving DecidableEq, Repr

/-- The APU's registers, 60_exceptions.md R530, and the four channels' internal state, R532. -/
structure Apu where
  nr10 : Byte
  nr11 : Byte
  nr12 : Byte
  nr13 : Byte
  nr14 : Byte
  nr21 : Byte
  nr22 : Byte
  nr23 : Byte
  nr24 : Byte
  nr30 : Byte
  nr31 : Byte
  nr32 : Byte
  nr33 : Byte
  nr34 : Byte
  nr41 : Byte
  nr42 : Byte
  nr43 : Byte
  nr44 : Byte
  nr50 : Byte
  nr51 : Byte
  /-- bit 7 is the master power bit -/
  nr52 : Byte
  ch1  : ApuChannel
  ch2  : ApuChannel
  ch3  : ApuChannel
  ch4  : ApuChannel
deriving DecidableEq, Repr

/-- The eight buttons, `true` when pressed, 60_exceptions.md R551. -/
structure Buttons where
  right  : Bool
  left   : Bool
  up     : Bool
  down   : Bool
  a      : Bool
  b      : Bool
  select : Bool
  start  : Bool
deriving DecidableEq, Repr

/-- The joypad, 60_exceptions.md R550 to R553. -/
structure Pad where
  /-- P1 bits 5 and 4 -/
  select    : BitVec 2
  /-- the sample of this step -/
  buttons   : Buttons
  /-- the lines 3 to 0 at the last sampling -/
  prevLines : BitVec 4
  /-- the samples the host still gives, one per step; after the last the buttons stay as they are (log 7) -/
  inputs    : List Buttons
deriving DecidableEq, Repr

/-- The size of a picture in pixels, the arguments of `set_size`, 60_exceptions.md R507. -/
structure FrameSize where
  width  : Nat
  height : Nat
deriving DecidableEq, Repr

/-- The scheduler's frame accounting, 60_exceptions.md R562, how often the host was called (log 16), and the size
`set_size` has told it, none before the first call (R507, log 38). -/
structure Sched where
  frameCycles : Nat
  frames      : Nat
  clears      : Nat
  apuBatches  : Nat
  announced   : Option FrameSize
deriving DecidableEq, Repr

/-- The launch parameters, 00_scope.md R8. No step changes them (10_state.md R50); they stand in the state so that a
statement about every state holds for every choice of them (log 1). -/
structure Launch where
  colorMode            : Bool
  haltBug              : Bool
  statLycInterrupt     : Bool
  hwAccessRestrictions : Bool
  exitAddr             : Word
deriving DecidableEq, Repr

/-- Everything the spec gives the machine. -/
structure State where
  regs         : Regs
  flags        : Flags
  pc           : Word
  sp           : Word
  /-- IE bits 4 to 0, 10_state.md R37 -/
  ie           : BitVec 5
  /-- IF bits 4 to 0, 10_state.md R38 -/
  iflag        : BitVec 5
  ime          : Bool
  imePending   : Bool
  halted       : Bool
  doubleSpeed  : Bool
  speedArmed   : Bool
  haltBugLatch : Bool
  fault        : Option FaultReason
  /-- every byte of storage, by the keys of Machine/Memory.lean -/
  mem          : List Host.Cell
  cart         : Cart
  timer        : Timer
  dma          : Dma
  ppu          : Ppu
  apu          : Apu
  pad          : Pad
  sched        : Sched
  launch       : Launch
  /-- the address of the opcode being executed: `addr` of 60_exceptions.md R452 -/
  opAddr       : Word
  /-- the cycles of this step: `cyc` of 60_exceptions.md R452 -/
  cyc          : Nat
  /-- the memory reads made: the argument of the free value `Config.draw` (log 5) -/
  draws        : Nat
deriving DecidableEq, Repr

/-- Why the machine stopped. Every reason carries what 60_exceptions.md R470 records and the faulted state that R473
leaves: the effects made earlier in the step, and the fault record set. All are safe: the machine stops for good, as R473
says (log 8). -/
inductive Fault where
  /-- raised by the eleven illegal base opcodes, 45_system.md R426 and 60_exceptions.md R471. Safe. -/
  | illegalOpcode (op : Byte) (addr : Word) (left : State)
  /-- raised by any access to an undefined I/O address, 60_exceptions.md R472. Safe. -/
  | undefinedIo (addr : Word) (kind : AccessKind) (left : State)
  /-- raised by STOP without a primed speed switch, 45_system.md R422. Safe. -/
  | unmodelledStop (addr : Word) (left : State)
  /-- raised by a write of a page of 0xE0 or more to FF46, 60_exceptions.md R490. Safe. -/
  | dmaSourceUnmodelled (page : Byte) (left : State)
  /-- set by the loader for an unsupported cartridge, 20_memory.md R114; no step runs. Safe. -/
  | cartridgeConfig (byte : Byte) (left : State)
deriving DecidableEq, Repr

/-- Why an instruction has no meaning. -/
inductive Refusal where
  /-- raised by `exec` alone, for an instruction whose meaning is not written. Safe. -/
  | notModelled (mnemonic : String)
deriving DecidableEq, Repr

/-- A silent channel, the internal state of every channel at reset (log 4). -/
def silentChannel : ApuChannel := { length := 0, volume := 0, phase := 0, freq := 0, shift := 0 }

/-- No button pressed: what the joypad holds at reset, before the first sample. DESIGN CHOICE (log 7). -/
def noButtons : Buttons :=
  { right := false, left := false, up := false, down := false, a := false, b := false, select := false, start := false }

/-- The registers after reset on the monochrome console, 70_reset_and_hazards.md R600. -/
def resetRegs : Regs := { a := 0x01, b := 0x00, c := 0x13, d := 0x00, e := 0xD8, h := 0x01, l := 0x4D }

/-- F = 0xB0 after reset, 70_reset_and_hazards.md R600. -/
def resetFlags : Flags := { z := true, n := false, h := true, cy := true }

/-- The PPU after reset, 70_reset_and_hazards.md R603. OBP0 and OBP1 are draws there; 0 is the model's choice (log 4), and
so is `xfer`, which is read only after it is set (log 6). -/
def resetPpu : Ppu :=
  { lcdc := 0x91, statEnables := 0, mode := .oamSearch, ly := 0, dot := 0, xfer := 168, lycRose := false, lyc := 0,
    scy := 0, scx := 0, wy := 0, wx := 0, bgp := 0xFC, obp0 := 0, obp1 := 0, vbk := false,
    bcps := { index := 0, auto := false }, ocps := { index := 0, auto := false } }

/-- The APU after reset, 70_reset_and_hazards.md R603: the power bit is 1; every other value is a draw there and 0 here
(log 4). -/
def resetApu : Apu :=
  { nr10 := 0, nr11 := 0, nr12 := 0, nr13 := 0, nr14 := 0, nr21 := 0, nr22 := 0, nr23 := 0, nr24 := 0,
    nr30 := 0, nr31 := 0, nr32 := 0, nr33 := 0, nr34 := 0, nr41 := 0, nr42 := 0, nr43 := 0, nr44 := 0,
    nr50 := 0, nr51 := 0, nr52 := 0x80,
    ch1 := silentChannel, ch2 := silentChannel, ch3 := silentChannel, ch4 := silentChannel }

/-- The machine right after reset, 70_reset_and_hazards.md R600 to R603: the monochrome console, an empty RomOnly
cartridge of two banks, nothing listed in memory. The values the spec leaves OPEN or draws are named in the log: launch
parameters (1), IE and IF (2), memory (3), OBP0, OBP1 and APU (4), the joypad, with no sample to come and no button pressed
(7), the program (10). A launch (`launchWith`) takes any of them. -/
def State.reset : State :=
  { regs := resetRegs, flags := resetFlags, pc := 0x0100, sp := 0xFFFE, ie := 0, iflag := 0,
    ime := false, imePending := false, halted := false, doubleSpeed := false, speedArmed := false,
    haltBugLatch := false, fault := none, mem := [],
    cart := { mapper := .romOnly, romBanks := 2, ramBytes := 0 },
    timer := { div := 0, divSub := 0, tima := 0, tma := 0, tac := 0, timaSub := 0 },
    dma := { oam := none, dmaReg := 0, vram := none, hdma1 := 0, hdma2 := 0, hdma3 := 0, hdma4 := 0 },
    ppu := resetPpu, apu := resetApu,
    pad := { select := 0, buttons := noButtons, prevLines := 0xF, inputs := [] },
    sched := { frameCycles := 0, frames := 0, clears := 0, apuBatches := 0, announced := none },
    launch := { colorMode := false, haltBug := false, statLycInterrupt := false, hwAccessRestrictions := false,
                exitAddr := 0 },
    opAddr := 0, cyc := 0, draws := 0 }

end Sys2Proof.Machine
end

