-- ==== Sys2Proof/Machine/Apu.lean ====
section
/-! DEFINITION. The sound processor as the core observes it, 60_exceptions.md R530 to R533: the register file, the side
effects of a write, and the batched step. What the synthesis computes is free (log 23). -/

namespace Sys2Proof.Machine

/-- The named APU registers, 60_exceptions.md R530. -/
inductive ApuReg where
  | nr10 | nr11 | nr12 | nr13 | nr14 | nr21 | nr22 | nr23 | nr24 | nr30 | nr31 | nr32 | nr33 | nr34
  | nr41 | nr42 | nr43 | nr44 | nr50 | nr51 | nr52
deriving DecidableEq, Repr

/-- A write stores the byte, 60_exceptions.md R530. -/
def Apu.store (u : Apu) (r : ApuReg) (v : Byte) : Apu :=
  match r with
  | .nr10 => { u with nr10 := v } | .nr11 => { u with nr11 := v } | .nr12 => { u with nr12 := v }
  | .nr13 => { u with nr13 := v } | .nr14 => { u with nr14 := v } | .nr21 => { u with nr21 := v }
  | .nr22 => { u with nr22 := v } | .nr23 => { u with nr23 := v } | .nr24 => { u with nr24 := v }
  | .nr30 => { u with nr30 := v } | .nr31 => { u with nr31 := v } | .nr32 => { u with nr32 := v }
  | .nr33 => { u with nr33 := v } | .nr34 => { u with nr34 := v } | .nr41 => { u with nr41 := v }
  | .nr42 => { u with nr42 := v } | .nr43 => { u with nr43 := v } | .nr44 => { u with nr44 := v }
  | .nr50 => { u with nr50 := v } | .nr51 => { u with nr51 := v } | .nr52 => { u with nr52 := v }

/-- A write to a length-related register reloads the length counter, 60_exceptions.md R532. -/
def channelLoadLength (k : ApuChannel) (c : Chan) (v : Byte) : ApuChannel :=
  { k with length := Config.apuLength c v }

/-- A write to an envelope register resets the volume envelope, 60_exceptions.md R532. -/
def channelResetEnvelope (k : ApuChannel) (c : Chan) (v : Byte) : ApuChannel :=
  { k with volume := Config.apuVolume c v }

/-- A write with the trigger bit 7 set restarts phase, length and, on the noise channel, the shift register,
60_exceptions.md R532. `lengthReg` is the channel's length register. -/
def channelTrigger (k : ApuChannel) (c : Chan) (lengthReg v : Byte) : ApuChannel :=
  if v.getLsbD 7 then
    { k with phase := Config.apuPhase c, length := Config.apuLength c lengthReg,
             shift := if c = .noise then Config.apuShift else k.shift }
  else k

/-- The side effects of a write on the channels' internal state, 60_exceptions.md R532. Which register is the length-related
one (NRx1) and which the envelope's (NRx2, none on the wave channel) is PRESUMED, the family's layout (log 36). -/
def Apu.sideEffect (u : Apu) (r : ApuReg) (v : Byte) : Apu :=
  match r with
  | .nr11 => { u with ch1 := channelLoadLength u.ch1 .sweep v }
  | .nr21 => { u with ch2 := channelLoadLength u.ch2 .square v }
  | .nr31 => { u with ch3 := channelLoadLength u.ch3 .wave v }
  | .nr41 => { u with ch4 := channelLoadLength u.ch4 .noise v }
  | .nr12 => { u with ch1 := channelResetEnvelope u.ch1 .sweep v }
  | .nr22 => { u with ch2 := channelResetEnvelope u.ch2 .square v }
  | .nr42 => { u with ch4 := channelResetEnvelope u.ch4 .noise v }
  | .nr14 => { u with ch1 := channelTrigger u.ch1 .sweep u.nr11 v }
  | .nr24 => { u with ch2 := channelTrigger u.ch2 .square u.nr21 v }
  | .nr34 => { u with ch3 := channelTrigger u.ch3 .wave u.nr31 v }
  | .nr44 => { u with ch4 := channelTrigger u.ch4 .noise u.nr41 v }
  | .nr10 | .nr13 | .nr23 | .nr30 | .nr32 | .nr33 | .nr43 | .nr50 | .nr51 | .nr52 => u

/-- A write to an APU register. -/
def Apu.write (u : Apu) (r : ApuReg) (v : Byte) : Apu := (u.store r v).sideEffect r v

/-- The master power bit, 60_exceptions.md R530, R531. -/
def Apu.power (u : Apu) : Bool := u.nr52.getLsbD 7

/-- The bit of a channel in the channel-enable mask. PRESUMED, the family's layout (log 34). -/
def channelBit (c : Chan) : Nat :=
  match c with
  | .sweep => 0
  | .square => 1
  | .wave => 2
  | .noise => 3

/-- The channel-enable mask is NR52 bits 3:0, 60_exceptions.md R530; which bits is PRESUMED (log 34). -/
def Apu.enabled (u : Apu) (c : Chan) : Bool := u.nr52.getLsbD (channelBit c)

/-- The stereo-panning mask NR51 sends a channel to the right (bits 3:0) or to the left (bits 7:4), 60_exceptions.md R530;
which bits is PRESUMED (log 34). -/
def Apu.panned (u : Apu) (c : Chan) : Bool := u.nr51.getLsbD (channelBit c) || u.nr51.getLsbD (channelBit c + 4)

/-- Whether a channel steps at all: the power bit, the channel-enable mask and the stereo-panning mask let it,
60_exceptions.md R531. -/
def Apu.runs (u : Apu) (c : Chan) : Bool := u.power && u.enabled c && u.panned c

/-- One channel in a batched call; `regs` are its registers. A channel that is gated off keeps its state, 60_exceptions.md
R531. -/
def Apu.stepChannel (u : Apu) (c : Chan) (regs : List Byte) (cycles : Nat) (k : ApuChannel) : ApuChannel :=
  if u.runs c then Config.apuAdvance c regs cycles k else k

/-- One batched call with `cycles` accumulated cycles, 60_exceptions.md R531. -/
def Apu.batch (u : Apu) (cycles : Nat) : Apu :=
  { u with
    ch1 := u.stepChannel .sweep [u.nr10, u.nr11, u.nr12, u.nr13, u.nr14, u.nr50, u.nr51, u.nr52] cycles u.ch1
    ch2 := u.stepChannel .square [u.nr21, u.nr22, u.nr23, u.nr24, u.nr50, u.nr51, u.nr52] cycles u.ch2
    ch3 := u.stepChannel .wave [u.nr30, u.nr31, u.nr32, u.nr33, u.nr34, u.nr50, u.nr51, u.nr52] cycles u.ch3
    ch4 := u.stepChannel .noise [u.nr41, u.nr42, u.nr43, u.nr44, u.nr50, u.nr51, u.nr52] cycles u.ch4 }

/-- The bytes of a square channel's frequency registers for the 11-bit register `x`: NRx3 and NRx4[2:0],
60_exceptions.md R533. -/
def freqBytes (x : BitVec 11) : Byte × BitVec 3 := (x.extractLsb' 0 8, x.extractLsb' 8 3)

/-- The 11-bit frequency register read back from its two bytes, 60_exceptions.md R533. -/
def freqOfBytes (lo : Byte) (hi : BitVec 3) : BitVec 11 := hi ++ lo

/-- The denominator of `f = 131072 / (2048 - x)` Hz, 60_exceptions.md R533. -/
def freqDenominator (x : BitVec 11) : Nat := 2048 - x.toNat

/-- The quantized register of the frequency 131072 / `den` Hz, 60_exceptions.md R533. -/
def freqRegister (den : Nat) : BitVec 11 := BitVec.ofNat 11 (2048 - den)

end Sys2Proof.Machine
end

