-- ==== Sys2Proof/Machine/Memory.lean ====
section
/-! DEFINITION. The storage behind the address space: one list of cells in one canonical form, and the key under which
each array of the spec keeps its bytes. Arrays the core sees at one fixed place are keyed by their address; banked and
hidden arrays have keys above the 16-bit address space. -/

namespace Sys2Proof.Machine

/-- What a cell that nothing has listed reads as. The spec makes the contents of RAM at reset a draw (70_reset_and_hazards.md
R602, `ramInit`); 0 is the model's. DESIGN CHOICE (log 3), unsafe. -/
def Memory.unlisted : Byte := 0

/-- The byte stored under a key. -/
def Memory.read (mem : List Host.Cell) (key : Nat) : Byte :=
  match mem with
  | [] => Memory.unlisted
  | cell :: rest => if cell.1 = key then cell.2 else Memory.read rest key

/-- `cell` put in front of `rest`, unless its byte is what an unlisted cell reads as. -/
def Memory.cons (cell : Host.Cell) (rest : List Host.Cell) : List Host.Cell :=
  if cell.2 = Memory.unlisted then rest else cell :: rest

/-- The memory with `v` stored under a key, in canonical form. -/
def Memory.write (mem : List Host.Cell) (key : Nat) (v : Byte) : List Host.Cell :=
  match mem with
  | [] => Memory.cons (key, v) []
  | cell :: rest =>
    if key < cell.1 then Memory.cons (key, v) (cell :: rest)
    else if key = cell.1 then Memory.cons (key, v) rest
    else cell :: Memory.write rest key v

/-- The canonical form: keys strictly rising from `low` on, and no cell that lists what an unlisted one reads as. -/
def Memory.wfFrom (low : Nat) (mem : List Host.Cell) : Bool :=
  match mem with
  | [] => true
  | cell :: rest => decide (low ≤ cell.1) && decide (cell.2 ≠ Memory.unlisted) && Memory.wfFrom (cell.1 + 1) rest

/-- The canonical form of a memory. -/
def Memory.wf (mem : List Host.Cell) : Bool := Memory.wfFrom 0 mem

/-- The key of byte `off` of the ROM image, 20_memory.md R81, R82. -/
def Key.rom (off : Nat) : Nat := 0x1000000 + off

/-- The key of byte `off` of a VRAM bank, 20_memory.md R84. -/
def Key.vram (bank : Bool) (off : Nat) : Nat := 0x10000 + (if bank then 0x2000 else 0) + off

/-- The key of byte `off` of the external RAM, 20_memory.md R107. -/
def Key.extRam (off : Nat) : Nat := 0x20000 + off

/-- The key of cell `i` of the MBC2's inline RAM, 20_memory.md R110. -/
def Key.mbc2 (i : Nat) : Nat := 0x40000 + i

/-- The key of byte `i` of the background palette RAM, 60_exceptions.md R514. -/
def Key.bgPal (i : Nat) : Nat := 0x50000 + i

/-- The key of byte `i` of the sprite palette RAM, 60_exceptions.md R514. -/
def Key.objPal (i : Nat) : Nat := 0x50040 + i

/-- The key of byte `i` of OAM: its address, 20_memory.md R88. -/
def Key.oam (i : Nat) : Nat := 0xFE00 + i

end Sys2Proof.Machine
end

