-- ==== Sys2Proof/Machine/Cartridge.lean ====
section
/-! DEFINITION. The bank controllers, 20_memory.md R107 to R114: which ROM bank and which external-RAM byte an address
reaches, and what a write to the ROM windows changes. -/

namespace Sys2Proof.Machine

/-- The five RTC byte registers of MBC3, 20_memory.md R111. -/
inductive RtcReg where
  | seconds | minutes | hours | dayLow | dayHigh
deriving DecidableEq, Repr

/-- Reads an RTC byte. -/
def Rtc.get (t : Rtc) : RtcReg → Byte
  | .seconds => t.seconds | .minutes => t.minutes | .hours => t.hours | .dayLow => t.dayLow | .dayHigh => t.dayHigh

/-- Stores an RTC byte; the clock never advances (92_eei_decisions.md D38). -/
def Rtc.set (t : Rtc) (r : RtcReg) (v : Byte) : Rtc :=
  match r with
  | .seconds => { t with seconds := v }
  | .minutes => { t with minutes := v }
  | .hours => { t with hours := v }
  | .dayLow => { t with dayLow := v }
  | .dayHigh => { t with dayHigh := v }

/-- What an address of A000–BFFF reaches, 20_memory.md R85. -/
inductive ExtRam where
  /-- byte `off` of the external RAM -/
  | byte (off : Nat)
  /-- a 4-bit cell of the MBC2 -/
  | nibble (i : Nat)
  /-- an RTC register of the MBC3 -/
  | rtc (r : RtcReg)
  /-- nothing: no RAM, RAM disabled, or no target -/
  | absent
deriving DecidableEq, Repr

/-- The bank remap of MBC1, 20_memory.md R109: 0x00, 0x20, 0x40 and 0x60 map to the next bank. -/
def fixMbc1 (b : BitVec 7) : BitVec 7 :=
  if b = 0x00 ∨ b = 0x20 ∨ b = 0x40 ∨ b = 0x60 then b + 1 else b

/-- The ROM bank a controller selects at 4000–7FFF, before the reduction by the image's size. -/
def Mapper.romBank (m : Mapper) : Nat :=
  match m with
  | .romOnly => 1
  | .mbc1 low5 high2 mode _ => (if mode then fixMbc1 (low5.setWidth 7) else fixMbc1 (high2 ++ low5)).toNat
  | .mbc2 bank _ => bank.toNat
  | .mbc3 bank _ _ _ => bank.toNat
  | .mbc5 bank _ _ => bank.toNat

/-- The ROM bank mapped at 4000–7FFF, reduced modulo the number of banks (20_memory.md R107). -/
def Cart.romBank (c : Cart) : Nat := c.mapper.romBank % c.romBanks

/-- Byte `off` of external-RAM bank `bank`. RAM smaller than 8 KB repeats (20_memory.md R107); beyond a larger RAM there
is none (log 17). -/
def Cart.ramByte (c : Cart) (bank off : Nat) : ExtRam :=
  if c.ramBytes = 0 then .absent
  else if c.ramBytes < 0x2000 then .byte ((bank * 0x2000 + off) % c.ramBytes)
  else if bank * 0x2000 + off < c.ramBytes then .byte (bank * 0x2000 + off)
  else .absent

/-- The target of MBC3's selector, 20_memory.md R111. -/
def mbc3Target (c : Cart) (sel : Byte) (off : Nat) : ExtRam :=
  if sel.toNat < 4 then c.ramByte sel.toNat off
  else if sel = 0x08 then .rtc .seconds
  else if sel = 0x09 then .rtc .minutes
  else if sel = 0x0A then .rtc .hours
  else if sel = 0x0B then .rtc .dayLow
  else if sel = 0x0C then .rtc .dayHigh
  else .absent

/-- What address 0xA000 + `off` reaches, 20_memory.md R108 to R112. -/
def Cart.extRam (c : Cart) (off : Nat) : ExtRam :=
  match c.mapper with
  | .romOnly => c.ramByte 0 off
  | .mbc1 _ high2 mode ramEnable => if ramEnable then c.ramByte (if mode then high2.toNat else 0) off else .absent
  | .mbc2 _ ramEnable => if ramEnable then .nibble (off % 512) else .absent
  | .mbc3 _ sel ramEnable _ => if ramEnable then mbc3Target c sel off else .absent
  | .mbc5 _ ramBank ramEnable => if ramEnable then c.ramByte ramBank.toNat off else .absent

/-- A RAM-enable write enables when the low nibble is 0xA, 20_memory.md R107. -/
def ramEnableOf (v : Byte) : Bool := v.extractLsb' 0 4 == 0xA#4

/-- `fix(0) = 1` of MBC2, 20_memory.md R110. -/
def fixMbc2 (b : BitVec 4) : BitVec 4 := if b = 0 then 1 else b

/-- `fix(0) = 1` of MBC3, 20_memory.md R111. -/
def fixMbc3 (b : BitVec 5) : BitVec 5 := if b = 0 then 1 else b

/-- A bank-controller control write at an address of 0000–7FFF, 20_memory.md R83, R108 to R112. -/
def Mapper.control (m : Mapper) (addr : Word) (v : Byte) : Mapper :=
  let n := addr.toNat
  match m with
  | .romOnly => .romOnly
  | .mbc1 low5 high2 mode ramEnable =>
    if n < 0x2000 then .mbc1 low5 high2 mode (ramEnableOf v)
    else if n < 0x4000 then .mbc1 (v.extractLsb' 0 5) high2 mode ramEnable
    else if n < 0x6000 then .mbc1 low5 (v.extractLsb' 0 2) mode ramEnable
    else .mbc1 low5 high2 (v.getLsbD 0) ramEnable
  | .mbc2 bank ramEnable =>
    if n < 0x4000 then
      if addr.getLsbD 8 then .mbc2 (fixMbc2 (v.extractLsb' 0 4)) ramEnable else .mbc2 bank (ramEnableOf v)
    else .mbc2 bank ramEnable
  | .mbc3 bank sel ramEnable rtc =>
    if n < 0x2000 then .mbc3 bank sel (ramEnableOf v) rtc
    else if n < 0x4000 then .mbc3 (fixMbc3 (v.extractLsb' 0 5)) sel ramEnable rtc
    else if n < 0x6000 then .mbc3 bank v ramEnable rtc
    else .mbc3 bank sel ramEnable rtc
  | .mbc5 bank ramBank ramEnable =>
    if n < 0x2000 then .mbc5 bank ramBank (ramEnableOf v)
    else if n < 0x3000 then .mbc5 (bank.extractLsb' 8 1 ++ v) ramBank ramEnable
    else if n < 0x4000 then .mbc5 (v.extractLsb' 0 1 ++ bank.extractLsb' 0 8) ramBank ramEnable
    else if n < 0x6000 then .mbc5 bank (v.extractLsb' 0 4) ramEnable
    else .mbc5 bank ramBank ramEnable

/-- The clock bytes the controller holds; a controller without a clock has none, all zero. -/
def Mapper.rtc (m : Mapper) : Rtc :=
  match m with
  | .mbc3 _ _ _ rtc => rtc
  | _ => { seconds := 0, minutes := 0, hours := 0, dayLow := 0, dayHigh := 0 }

/-- A write to an RTC register of the MBC3. -/
def Mapper.setRtc (m : Mapper) (r : RtcReg) (v : Byte) : Mapper :=
  match m with
  | .mbc3 bank sel ramEnable rtc => .mbc3 bank sel ramEnable (rtc.set r v)
  | other => other

end Sys2Proof.Machine
end

