-- ==== Sys2Proof/Machine/Cycles.lean ====
section
/-! DEFINITION. The cycle counts: the parameters of 00_scope.md R8 that have a default, and the frame budget of
60_exceptions.md R562. -/

namespace Sys2Proof

/-- `intServiceCycles`, default 20 (00_scope.md R8, 92_eei_decisions.md D5). -/
def Config.intServiceCycles : Nat := 20

/-- `haltStepCycles`, default 4 (00_scope.md R8, 92_eei_decisions.md D5). -/
def Config.haltStepCycles : Nat := 4

/-- One frame's cycle budget, 60_exceptions.md R562. -/
def Config.frameBudget (doubleSpeed : Bool) : Nat := if doubleSpeed then 140448 else 70224

/-- One row of the table of 70_reset_and_hazards.md R620: the cycles of the sixteen opcodes of one high nibble, taken and
not taken (the same number where there is one). An illegal opcode and the prefix have none: 0. -/
abbrev CycleRow := List (Nat × Nat)

/-- `same n` is an opcode with one cycle count. -/
def Config.same (n : Nat) : Nat × Nat := (n, n)

/-- The rows 0 to 3 of 70_reset_and_hazards.md R620. -/
def Config.cycleRows03 : List CycleRow :=
  [[4, 12, 8, 8, 4, 4, 8, 4, 20, 8, 8, 8, 4, 4, 8, 4].map same,
   [4, 12, 8, 8, 4, 4, 8, 4, 12, 8, 8, 8, 4, 4, 8, 4].map same,
   (12, 8) :: [12, 8, 8, 4, 4, 8, 4].map same ++ (12, 8) :: [8, 8, 8, 4, 4, 8, 4].map same,
   (12, 8) :: [12, 8, 8, 12, 12, 12, 4].map same ++ (12, 8) :: [8, 8, 8, 4, 4, 8, 4].map same]

/-- The rows 4 to B of 70_reset_and_hazards.md R620. -/
def Config.cycleRows4B : List CycleRow :=
  List.replicate 3 ([4, 4, 4, 4, 4, 4, 8, 4, 4, 4, 4, 4, 4, 4, 8, 4].map same) ++
  [[8, 8, 8, 8, 8, 8, 4, 8, 4, 4, 4, 4, 4, 4, 8, 4].map same] ++
  List.replicate 4 ([4, 4, 4, 4, 4, 4, 8, 4, 4, 4, 4, 4, 4, 4, 8, 4].map same)

/-- The rows C to F of 70_reset_and_hazards.md R620. -/
def Config.cycleRowsCF : List CycleRow :=
  [[(20, 8), (12, 12), (16, 12), (16, 16), (24, 12), (16, 16), (8, 8), (16, 16)] ++
     [(20, 8), (16, 16), (16, 12), (0, 0), (24, 12), (24, 24), (8, 8), (16, 16)],
   [(20, 8), (12, 12), (16, 12), (0, 0), (24, 12), (16, 16), (8, 8), (16, 16)] ++
     [(20, 8), (16, 16), (16, 12), (0, 0), (24, 12), (0, 0), (8, 8), (16, 16)],
   [12, 12, 8, 0, 0, 16, 8, 16, 16, 4, 16, 0, 0, 0, 8, 16].map same,
   [12, 12, 8, 4, 0, 16, 8, 16, 12, 8, 16, 4, 0, 0, 8, 16].map same]

/-- `cycleTable` for a base opcode, its default (70_reset_and_hazards.md R620): the cycles when a conditional transfer is
taken and when it is not. DESIGN CHOICE of the spec's default (log 9). -/
def Config.baseCycles (op : Byte) : Nat × Nat :=
  ((Config.cycleRows03 ++ Config.cycleRows4B ++ Config.cycleRowsCF).getD (op.toNat / 16) []).getD (op.toNat % 16) (0, 0)

/-- `cycleTable` for a prefixed opcode, its default (70_reset_and_hazards.md R620): 8 for a register operand, 12 for
`BIT b,(HL)`, 16 for the other `(HL)` forms. -/
def Config.prefixedCycles (op2 : Byte) : Nat :=
  if op2.toNat % 8 = 6 then (if op2.toNat / 64 = 1 then 12 else 16) else 8

end Sys2Proof
end

