-- ==== Sys2Proof/Machine/Joypad.lean ====
section
/-! DEFINITION. The joypad, 60_exceptions.md R550 to R553. -/

namespace Sys2Proof.Machine

/-- The direction keys Right, Left, Up, Down as lines 0 to 3, 1 when pressed (60_exceptions.md R553). -/
def Buttons.directions (b : Buttons) : BitVec 4 :=
  BitVec.ofBool b.down ++ BitVec.ofBool b.up ++ BitVec.ofBool b.left ++ BitVec.ofBool b.right

/-- The action buttons A, B, Select, Start as lines 0 to 3, 1 when pressed (60_exceptions.md R553). -/
def Buttons.actions (b : Buttons) : BitVec 4 :=
  BitVec.ofBool b.start ++ BitVec.ofBool b.select ++ BitVec.ofBool b.b ++ BitVec.ofBool b.a

/-- The lines 3:0, 0 where a selected group has its button pressed (60_exceptions.md R553). P1 bit 5 = 0 selects the
action buttons, bit 4 = 0 the direction keys (R550). -/
def Pad.lines (p : Pad) : BitVec 4 :=
  ~~~((if p.select.getLsbD 0 then 0#4 else p.buttons.directions) |||
      (if p.select.getLsbD 1 then 0#4 else p.buttons.actions))

/-- The sample of this step, 60_exceptions.md R551 (log 7). -/
def Pad.sample (p : Pad) : Pad :=
  match p.inputs with
  | [] => p
  | b :: rest => { p with buttons := b, inputs := rest }

/-- Some line went from 1 to 0 since the last sampling, 60_exceptions.md R552. -/
def Pad.falls (p : Pad) : Bool := decide (p.prevLines &&& ~~~p.lines ≠ 0#4)

/-- The lines remembered for the next sampling. -/
def Pad.remember (p : Pad) : Pad := { p with prevLines := p.lines }

end Sys2Proof.Machine
end

