-- ==== Sys2Proof/Machine/Ppu.lean ====
section
/-! DEFINITION. The pixel processor as the core observes it, 60_exceptions.md R500 to R518: the mode machine, its
interrupts, the OAM search and the tile-byte fetch unit. Pixels reach only the host (00_scope.md R6(b)). -/

namespace Sys2Proof.Machine

/-- LCDC[7], 60_exceptions.md R501. -/
def Ppu.lcdOn (p : Ppu) : Bool := p.lcdc.getLsbD 7

/-- The mode's number in STAT bits 1:0, 60_exceptions.md R502. -/
def PpuMode.code : PpuMode → BitVec 2
  | .hblank => 0 | .vblank => 1 | .oamSearch => 2 | .pixelTransfer => 3

/-! ### OAM search, 60_exceptions.md R508 and R511 -/

/-- Sprite entry `i` of an OAM given by its bytes, 60_exceptions.md R511. -/
def spriteAt (oam : Nat → Byte) (i : Nat) : Sprite :=
  { index := i, y := oam (4 * i), x := oam (4 * i + 1), tile := oam (4 * i + 2), attr := oam (4 * i + 3) }

/-- The sprite height, 8 or 16 by LCDC[2]. -/
def spriteHeight (lcdc : Byte) : Nat := if lcdc.getLsbD 2 then 16 else 8

/-- The sprite qualifies on line `ly`: Y-16 ≤ LY < Y-16+height, and X in 1..168. -/
def spriteOnLine (s : Sprite) (ly height : Nat) : Bool :=
  decide (s.y.toNat ≤ ly + 16) && decide (ly + 16 < s.y.toNat + height) &&
    decide (1 ≤ s.x.toNat) && decide (s.x.toNat ≤ 168)

/-- The sprites kept on line `ly`: in ascending OAM index, at most 10. -/
def oamSearch (oam : Nat → Byte) (ly : Nat) (lcdc : Byte) : List Sprite :=
  (((List.range 40).map (spriteAt oam)).filter fun s => spriteOnLine s ly (spriteHeight lcdc)).take 10

/-- Which of the kept sprites covers screen column `col`, 60_exceptions.md R508 and R511: the first whose eight columns
X-8 .. X-1 hold it. PRESUMED: the spec gives the first column, X-8, and no width (log 37). -/
def coveringSprite (kept : List Sprite) (col : Nat) : Option Sprite :=
  kept.find? fun s => decide (s.x.toNat ≤ col + 8) && decide (col < s.x.toNat)

/-! ### The tile-byte fetch unit, 60_exceptions.md R510 -/

/-- A running tile-byte fetch: the cycles since it started. -/
structure TileFetch where
  cycles : Nat
deriving DecidableEq, Repr

/-- A fetch at cycle 0. -/
def TileFetch.start : TileFetch := { cycles := 0 }

/-- One cycle of the fetch unit. -/
def TileFetch.step (f : TileFetch) : TileFetch := { f with cycles := f.cycles + 1 }

/-- The byte is ready after the sixth cycle. -/
def TileFetch.ready (f : TileFetch) : Bool := decide (6 ≤ f.cycles)

/-! ### The mode machine, 60_exceptions.md R504 -/

/-- The line state the PixelTransfer length is drawn from, 60_exceptions.md R505. -/
def Ppu.lineState (p : Ppu) (oam : Nat → Byte) : LineState :=
  { ly := p.ly, lcdc := p.lcdc, scx := p.scx, wx := p.wx, wy := p.wy,
    sprites := oamSearch oam p.ly.toNat p.lcdc }

/-- The mode at a line and dot, for a PixelTransfer of `xfer` dots. -/
def modeAt (ly dot xfer : Nat) : PpuMode :=
  if ly ≥ 144 then .vblank
  else if dot < 80 then .oamSearch
  else if dot < 80 + xfer then .pixelTransfer
  else .hblank

/-- The dot and line one step later. -/
def Ppu.tick (p : Ppu) : Ppu :=
  if p.dot + 1 = 456 then { p with dot := 0, ly := BitVec.ofNat 8 ((p.ly.toNat + 1) % 154) }
  else { p with dot := p.dot + 1 }

/-- The PixelTransfer length is fixed when the line's PixelTransfer begins, at dot 80. -/
def Ppu.fixXfer (p : Ppu) (oam : Nat → Byte) : Ppu :=
  if p.dot = 80 ∧ p.ly.toNat < 144 then { p with xfer := Config.xferLen (p.lineState oam) } else p

/-- The coincidence LY = LYC, 60_exceptions.md R502, R503: at every time, also with the LCD off. -/
def Ppu.lyMatches (p : Ppu) : Bool := p.ly == p.lyc

/-- The mode recomputed, 60_exceptions.md R502; what a write of LYC left for this step's interrupt is used up (log 14). -/
def Ppu.settle (p : Ppu) : Ppu :=
  { p with mode := modeAt p.ly.toNat p.dot p.xfer, lycRose := false }

/-- One PPU step, 60_exceptions.md R504. With the LCD off nothing advances and nothing is raised, now or later (R518). -/
def Ppu.step (p : Ppu) (oam : Nat → Byte) : Ppu :=
  if p.lcdOn then ((p.tick).fixXfer oam).settle else { p with lycRose := false }

/-- The step from `p` to `q` enters VBlank: LY becomes 144 (60_exceptions.md R506). -/
def Ppu.entersVblank (p q : Ppu) : Bool := p.lcdOn && decide (p.ly ≠ 144#8) && decide (q.ly = 144#8)

/-- The coincidence has changed from 0 to 1, 60_exceptions.md R503, R506: in the step from `p` to `q`, or at a write of LYC
before it, for which the request comes with this step (R457, log 14). -/
def Ppu.coincides (p q : Ppu) : Bool := p.lycRose || (!p.lyMatches && q.lyMatches)

/-- The step from `p` to `q` raises LcdStat, 60_exceptions.md R506. -/
def Ppu.raisesStat (p q : Ppu) (statLycInterrupt : Bool) : Bool :=
  p.lcdOn &&
    ((decide (p.mode ≠ .hblank) && decide (q.mode = .hblank) && p.statEnables.getLsbD 0) ||
     (decide (p.mode ≠ .vblank) && decide (q.mode = .vblank) && p.statEnables.getLsbD 1) ||
     (decide (p.mode ≠ .oamSearch) && decide (q.mode = .oamSearch) && p.statEnables.getLsbD 2) ||
     (statLycInterrupt && p.statEnables.getLsbD 3 && p.coincides q))

/-- The step from `p` to `q` ends a frame: LY wraps from 153 to 0 (60_exceptions.md R507). -/
def Ppu.endsFrame (p q : Ppu) : Bool := p.lcdOn && decide (p.ly = 153#8) && decide (q.ly = 0#8)

/-- A write to LYC, 60_exceptions.md R503: the coincidence is recomputed at once, and a change from 0 to 1 is kept for the
PPU's step, since devices raise only there (R457, log 14); with the LCD off it raises nothing (R518). -/
def Ppu.writeLyc (p : Ppu) (v : Byte) : Ppu :=
  { p with lyc := v, lycRose := p.lycRose || (p.lcdOn && !p.lyMatches && p.ly == v) }

/-- A write to LCDC, 60_exceptions.md R501 and R518: clearing bit 7 stops the PPU at line 0, dot 0, mode HBlank; setting
it starts line 0, dot 0, in OamSearch. -/
def Ppu.writeLcdc (p : Ppu) (v : Byte) : Ppu :=
  if !v.getLsbD 7 then { p with lcdc := v, ly := 0, dot := 0, mode := .hblank }
  else if !p.lcdOn then { p with lcdc := v, ly := 0, dot := 0, mode := .oamSearch }
  else { p with lcdc := v }

/-! ### The pictures handed to the host, 60_exceptions.md R507 and R518 -/

/-- The frame's size, 160 by 144 pixels, 60_exceptions.md R507. -/
def screenSize : FrameSize := { width := 160, height := 144 }

/-- `set_size(160, 144)`, 60_exceptions.md R507. -/
def Sched.announce (c : Sched) : Sched := { c with announced := some screenSize }

/-- A frame's end, 60_exceptions.md R507: its size is announced and the frame handed to the host (logs 16, 38). -/
def Sched.afterFrame (c : Sched) (ends : Bool) : Sched :=
  if ends then { c.announce with frames := c.frames + 1 } else c

/-- The LCD's going off, 60_exceptions.md R518: the cleared picture is flushed to the host, its size announced (logs 16,
38). -/
def Sched.afterClear (c : Sched) (clears : Bool) : Sched :=
  if clears then { c.announce with clears := c.clears + 1 } else c

end Sys2Proof.Machine
end

