-- ==== Sys2Proof/Machine/Timer.lean ====
section
/-! DEFINITION. The timer, 60_exceptions.md R480 to R486. -/

namespace Sys2Proof.Machine

/-- The period of TIMA in timer steps, 60_exceptions.md R482. -/
def Timer.period (tac : BitVec 3) : Nat :=
  if tac.extractLsb' 0 2 = 0b00 then 1024
  else if tac.extractLsb' 0 2 = 0b01 then 16
  else if tac.extractLsb' 0 2 = 0b10 then 64
  else 256

/-- The divider's part of a timer step: DIV advances every 256 steps, whatever TAC holds (60_exceptions.md R481, R484). -/
def Timer.stepDiv (t : Timer) : Timer :=
  if t.divSub.toNat + 1 = 256 then { t with divSub := 0, div := t.div + 1 } else { t with divSub := t.divSub + 1 }

/-- TIMA reaches its period at the next step. -/
def Timer.due (t : Timer) : Bool := t.tac.getLsbD 2 && decide (t.timaSub.toNat + 1 ≥ Timer.period t.tac)

/-- TIMA overflows at the next step, 60_exceptions.md R485. -/
def Timer.overflows (t : Timer) : Bool := t.due && t.tima == 0xFF#8

/-- TIMA's part of a timer step, with the reload from TMA in the same step (60_exceptions.md R484, R485). -/
def Timer.stepTima (t : Timer) : Timer :=
  if t.tac.getLsbD 2 then
    if t.timaSub.toNat + 1 ≥ Timer.period t.tac then
      { t with timaSub := 0, tima := if t.tima = 0xFF#8 then t.tma else t.tima + 1 }
    else { t with timaSub := t.timaSub + 1 }
  else t

/-- One timer step, 60_exceptions.md R484; the interrupt it raises is `Timer.overflows`. -/
def Timer.step (t : Timer) : Timer := t.stepDiv.stepTima

end Sys2Proof.Machine
end

