-- ==== Sys2Proof/Machine/Ops.lean ====
section
/-! DEFINITION. The named operations over registers and memory that the instructions share: register and pair accessors
(10_state.md R30 to R36), the memory mediator (20_memory.md R80 to R92, R116), byte fetch and stack (00_scope.md R11 to
R13), raising and taking an interrupt and returning from one (60_exceptions.md R455 to R464), and raising a fault (R473).
-/

namespace Sys2Proof.Machine

/-- What a step or a part of one ends in. -/
abbrev Result := Host.Outcome State Fault Refusal

/-! ### Faults, 60_exceptions.md R470 and R473 -/

/-- `raise Fault(r)`: the fault is recorded in the state the step leaves, and the step ends. -/
def raiseFault (r : FaultReason) (s : State) : Fault :=
  match r with
  | .illegalOpcode op addr => .illegalOpcode op addr { s with fault := some r }
  | .undefinedIo addr kind => .undefinedIo addr kind { s with fault := some r }
  | .unmodelledStop addr => .unmodelledStop addr { s with fault := some r }
  | .dmaSourceUnmodelled page => .dmaSourceUnmodelled page { s with fault := some r }
  | .cartridgeConfig byte => .cartridgeConfig byte { s with fault := some r }

/-- The faulted state, 60_exceptions.md R473. -/
def faultLeft (f : Fault) : State :=
  match f with
  | .illegalOpcode _ _ s => s
  | .undefinedIo _ _ s => s
  | .unmodelledStop _ s => s
  | .dmaSourceUnmodelled _ s => s
  | .cartridgeConfig _ s => s

/-- The code numbers of 60_exceptions.md R470. -/
def faultCode (r : FaultReason) : Nat :=
  match r with
  | .illegalOpcode _ _ => 1
  | .undefinedIo _ _ => 2
  | .unmodelledStop _ => 3
  | .dmaSourceUnmodelled _ => 4
  | .cartridgeConfig _ => 5

/-- The next part of a step, run only where the part before it ended in a next state. -/
def andThen (r : Result) (k : State → Result) : Result :=
  match r with
  | .next s => k s
  | .fault f => .fault f
  | .refused q => .refused q

/-- What a memory read ends in: the value and the state after the access, or a fault. -/
inductive Access (α : Type) where
  | ok (value : α) (s : State)
  | fault (f : Fault)

/-- The next part of an instruction, given the value read. -/
def withValue {α : Type} (x : Access α) (k : α → State → Result) : Result :=
  match x with
  | .ok v s => k v s
  | .fault f => .fault f

/-! ### Registers, 10_state.md R30 to R33 -/

/-- Reads a general register. -/
def Regs.get (g : Regs) (r : Reg8) : Byte :=
  match r with
  | .a => g.a | .b => g.b | .c => g.c | .d => g.d | .e => g.e | .h => g.h | .l => g.l

/-- Writes a general register. -/
def Regs.set (g : Regs) (r : Reg8) (v : Byte) : Regs :=
  match r with
  | .a => { g with a := v }
  | .b => { g with b := v }
  | .c => { g with c := v }
  | .d => { g with d := v }
  | .e => { g with e := v }
  | .h => { g with h := v }
  | .l => { g with l := v }

/-- F as a byte: Z, N, H, Cy in bits 7 to 4, and bits 3 to 0 zero (10_state.md R32, R33). -/
def Flags.toByte (f : Flags) : Byte :=
  BitVec.ofBool f.z ++ BitVec.ofBool f.n ++ BitVec.ofBool f.h ++ BitVec.ofBool f.cy ++ 0#4

/-- A byte written to F: bits 3 to 0 are discarded (10_state.md R31, R32). -/
def Flags.ofByte (v : Byte) : Flags :=
  { z := v.getLsbD 7, n := v.getLsbD 6, h := v.getLsbD 5, cy := v.getLsbD 4 }

/-- `{hi, lo}`, 00_scope.md R9. -/
def word (hi lo : Byte) : Word := hi ++ lo

/-- v[15:8]. -/
def hiByte (v : Word) : Byte := v.extractLsb' 8 8

/-- v[7:0]. -/
def loByte (v : Word) : Byte := v.extractLsb' 0 8

/-- `x[r]`. -/
def State.reg (s : State) (r : Reg8) : Byte := s.regs.get r

/-- `x[r] <- v`. -/
def State.setReg (s : State) (r : Reg8) (v : Byte) : State := { s with regs := s.regs.set r v }

/-- `x[HL]`. -/
def State.hl (s : State) : Word := word s.regs.h s.regs.l

/-- `x[BC]`. -/
def State.bc (s : State) : Word := word s.regs.b s.regs.c

/-- `x[DE]`. -/
def State.de (s : State) : Word := word s.regs.d s.regs.e

/-- `x[AF]`, with F[3:0] = 0. -/
def State.af (s : State) : Word := word s.regs.a s.flags.toByte

/-- `x[HL] <- v`. -/
def State.setHL (s : State) (v : Word) : State :=
  { s with regs := (s.regs.set .h (hiByte v)).set .l (loByte v) }

/-- `x[BC] <- v`. -/
def State.setBC (s : State) (v : Word) : State :=
  { s with regs := (s.regs.set .b (hiByte v)).set .c (loByte v) }

/-- `x[DE] <- v`. -/
def State.setDE (s : State) (v : Word) : State :=
  { s with regs := (s.regs.set .d (hiByte v)).set .e (loByte v) }

/-- `x[AF] <- v`: v[3:0] is discarded (10_state.md R31). -/
def State.setAF (s : State) (v : Word) : State :=
  { s with regs := s.regs.set .a (hiByte v), flags := Flags.ofByte (loByte v) }

/-- Writes the four flags. -/
def State.setFlags (s : State) (f : Flags) : State := { s with flags := f }

/-- `pc <- v`. -/
def State.setPc (s : State) (v : Word) : State := { s with pc := v }

/-- `sp <- v`. -/
def State.setSp (s : State) (v : Word) : State := { s with sp := v }

/-- The instruction's elapsed cycles, 60_exceptions.md R452. -/
def State.spend (s : State) (cycles : Nat) : State := { s with cyc := cycles }

/-- One memory read more: the next draw is another one (log 5). -/
def State.countRead (s : State) : State := { s with draws := s.draws + 1 }

/-- The draw of the next memory read. -/
def State.draw (s : State) : Byte := Config.draw s.draws

/-- A byte stored in a cell of storage. -/
def State.setCell (s : State) (key : Nat) (v : Byte) : State := { s with mem := Memory.write s.mem key v }

/-- The byte of a cell of storage. -/
def State.cell (s : State) (key : Nat) : Byte := Memory.read s.mem key

/-! ### Interrupt sources, 10_state.md R39 -/

/-- The five interrupt sources. -/
inductive IntSource where
  | vblank | lcdStat | timer | serial | joypad
deriving DecidableEq, Repr

/-- The bit of a source in IE and IF. -/
def IntSource.bit : IntSource → Nat
  | .vblank => 0 | .lcdStat => 1 | .timer => 2 | .serial => 3 | .joypad => 4

/-- The fixed vector `0x40 + bit*8`. -/
def IntSource.vector (n : IntSource) : Word := BitVec.ofNat 16 (0x40 + 8 * n.bit)

/-- The mask with only the source's bit set. -/
def IntSource.mask (n : IntSource) : BitVec 5 := 1#5 <<< n.bit

/-- `raise(n)`: `IF[n] <- 1`, 60_exceptions.md R457. -/
def State.raise (s : State) (n : IntSource) : State := { s with iflag := s.iflag ||| n.mask }

/-- `raise(n)` where the condition holds. -/
def State.raiseIf (s : State) (cond : Bool) (n : IntSource) : State := if cond then s.raise n else s

/-! ### The address map, 20_memory.md R80 to R92 -/

/-- The I/O registers of 20_memory.md R90. -/
inductive IoReg where
  | p1 | div | tima | tma | tac | iflag
  | lcdc | stat | scy | scx | ly | lyc | dma | bgp | obp0 | obp1 | wy | wx
  | key1 | vbk | hdma1 | hdma2 | hdma3 | hdma4 | hdma5 | bcps | bcpd | ocps | ocpd
  | apu (r : ApuReg)
deriving DecidableEq, Repr

/-- A row of the I/O map: the address, its register, and whether it exists in colour mode only. -/
structure IoRow where
  addr       : Nat
  reg        : IoReg
  colourOnly : Bool
deriving DecidableEq, Repr

/-- A row that exists on both consoles. -/
def ioRow (addr : Nat) (reg : IoReg) : IoRow := { addr := addr, reg := reg, colourOnly := false }

/-- A row that exists in colour mode only, 60_exceptions.md R472. -/
def colourRow (addr : Nat) (reg : IoReg) : IoRow := { addr := addr, reg := reg, colourOnly := true }

/-- The rows of the joypad, the timer and IF. -/
def ioRowsCore : List IoRow :=
  [ioRow 0xFF00 .p1, ioRow 0xFF04 .div, ioRow 0xFF05 .tima, ioRow 0xFF06 .tma, ioRow 0xFF07 .tac, ioRow 0xFF0F .iflag]

/-- The rows of the APU, 60_exceptions.md R530. -/
def ioRowsApu : List IoRow :=
  [ioRow 0xFF10 (.apu .nr10), ioRow 0xFF11 (.apu .nr11), ioRow 0xFF12 (.apu .nr12), ioRow 0xFF13 (.apu .nr13),
   ioRow 0xFF14 (.apu .nr14), ioRow 0xFF16 (.apu .nr21), ioRow 0xFF17 (.apu .nr22), ioRow 0xFF18 (.apu .nr23),
   ioRow 0xFF19 (.apu .nr24), ioRow 0xFF1A (.apu .nr30), ioRow 0xFF1B (.apu .nr31), ioRow 0xFF1C (.apu .nr32),
   ioRow 0xFF1D (.apu .nr33), ioRow 0xFF1E (.apu .nr34), ioRow 0xFF20 (.apu .nr41), ioRow 0xFF21 (.apu .nr42),
   ioRow 0xFF22 (.apu .nr43), ioRow 0xFF23 (.apu .nr44), ioRow 0xFF24 (.apu .nr50), ioRow 0xFF25 (.apu .nr51),
   ioRow 0xFF26 (.apu .nr52)]

/-- The rows of the PPU and of OAM DMA. FF46 is the DMA engine's (90_conflicts.md C4). -/
def ioRowsPpu : List IoRow :=
  [ioRow 0xFF40 .lcdc, ioRow 0xFF41 .stat, ioRow 0xFF42 .scy, ioRow 0xFF43 .scx, ioRow 0xFF44 .ly, ioRow 0xFF45 .lyc,
   ioRow 0xFF46 .dma, ioRow 0xFF47 .bgp, ioRow 0xFF48 .obp0, ioRow 0xFF49 .obp1, ioRow 0xFF4A .wy, ioRow 0xFF4B .wx]

/-- The rows that exist in colour mode only. -/
def ioRowsColour : List IoRow :=
  [colourRow 0xFF4D .key1, colourRow 0xFF4F .vbk, colourRow 0xFF51 .hdma1, colourRow 0xFF52 .hdma2,
   colourRow 0xFF53 .hdma3, colourRow 0xFF54 .hdma4, colourRow 0xFF55 .hdma5, colourRow 0xFF68 .bcps,
   colourRow 0xFF69 .bcpd, colourRow 0xFF6A .ocps, colourRow 0xFF6B .ocpd]

/-- The I/O map of 20_memory.md R90, but for the sound addresses without a named register. -/
def ioMap : List IoRow := ioRowsCore ++ ioRowsApu ++ ioRowsPpu ++ ioRowsColour

/-- What a 16-bit address reaches. -/
inductive Loc where
  /-- a byte of the ROM image; a write is a bank-controller control write (20_memory.md R83) -/
  | rom (key : Nat)
  /-- a byte of plain storage: VRAM, external RAM, WRAM and its mirror, OAM, wave RAM, HRAM -/
  | ram (key : Nat)
  /-- a 4-bit cell of the MBC2 (20_memory.md R110) -/
  | nibble (key : Nat)
  /-- an RTC register (20_memory.md R111) -/
  | rtc (r : RtcReg)
  /-- external RAM that is absent or disabled (20_memory.md R85) -/
  | noRam
  /-- FEA0–FEFF (20_memory.md R89) -/
  | hole
  /-- an I/O register (20_memory.md R90) -/
  | io (r : IoReg)
  /-- a sound address without a register: written and never read back (60_exceptions.md R530) -/
  | soundUnused (key : Nat)
  /-- IE at FFFF (20_memory.md R92) -/
  | ie
  /-- an undefined I/O address (60_exceptions.md R472) -/
  | undefined
deriving DecidableEq, Repr

/-- What an address of FF00–FF7F reaches, 20_memory.md R90 and 60_exceptions.md R530. -/
def ioLoc (colorMode : Bool) (n : Nat) : Loc :=
  match ioMap.find? (fun row => row.addr == n && (colorMode || !row.colourOnly)) with
  | some row => .io row.reg
  | none =>
    if 0xFF30 ≤ n ∧ n ≤ 0xFF3F then .ram n
    else if n = 0xFF15 ∨ n = 0xFF1F ∨ (0xFF27 ≤ n ∧ n ≤ 0xFF2F) then .soundUnused n
    else .undefined

/-- The VRAM bank at 8000–9FFF, 20_memory.md R84. -/
def State.vramBank (s : State) : Bool := s.launch.colorMode && s.ppu.vbk

/-- What address 0xA000 + `off` reaches, 20_memory.md R85. -/
def extLoc (c : Cart) (off : Nat) : Loc :=
  match c.extRam off with
  | .byte o => .ram (Key.extRam o)
  | .nibble i => .nibble (Key.mbc2 i)
  | .rtc r => .rtc r
  | .absent => .noRam

/-- The memory mediator's routing of an address, 20_memory.md R80. -/
def locate (s : State) (addr : Word) : Loc :=
  let n := addr.toNat
  if n < 0x4000 then .rom (Key.rom n)
  else if n < 0x8000 then .rom (Key.rom (s.cart.romBank * 0x4000 + (n - 0x4000)))
  else if n < 0xA000 then .ram (Key.vram s.vramBank (n - 0x8000))
  else if n < 0xC000 then extLoc s.cart (n - 0xA000)
  else if n < 0xE000 then .ram n
  else if n < 0xFE00 then .ram (n - 0x2000)
  else if n < 0xFEA0 then .ram (Key.oam (n - 0xFE00))
  else if n < 0xFF00 then .hole
  else if n < 0xFF80 then ioLoc s.launch.colorMode n
  else if n < 0xFFFF then .ram n
  else .ie

/-! ### Reading -/

/-- The value of an I/O register on a read, `d` standing for the bits it does not define: 60_exceptions.md R481 to R483,
R490, R493, R496, R501 to R503, R513 to R516, R530, R550; 10_state.md R38, R45. No read has a side effect
(92_eei_decisions.md D16). -/
def ioRead (r : IoReg) (d : Byte) (s : State) : Byte :=
  match r with
  | .p1 => d.extractLsb' 6 2 ++ s.pad.select ++ s.pad.lines
  | .div => s.timer.div
  | .tima => s.timer.tima
  | .tma => s.timer.tma
  | .tac => d.extractLsb' 3 5 ++ s.timer.tac
  | .iflag => d.extractLsb' 5 3 ++ s.iflag
  | .lcdc => s.ppu.lcdc
  | .stat => d.extractLsb' 7 1 ++ s.ppu.statEnables ++ BitVec.ofBool s.ppu.lyMatches ++ s.ppu.mode.code
  | .scy => s.ppu.scy
  | .scx => s.ppu.scx
  | .ly => s.ppu.ly
  | .lyc => s.ppu.lyc
  | .dma => s.dma.dmaReg
  | .bgp => s.ppu.bgp
  | .obp0 => s.ppu.obp0
  | .obp1 => s.ppu.obp1
  | .wy => s.ppu.wy
  | .wx => s.ppu.wx
  | .key1 => BitVec.ofBool s.doubleSpeed ++ d.extractLsb' 1 6 ++ BitVec.ofBool s.speedArmed
  | .vbk => d.extractLsb' 1 7 ++ BitVec.ofBool s.ppu.vbk
  | .hdma1 => d
  | .hdma2 => d
  | .hdma3 => d
  | .hdma4 => d
  | .hdma5 =>
    match s.dma.vram with
    | some x => 0#1 ++ (x.remaining / 16 - 1).extractLsb' 0 7
    | none => 0xFF
  | .bcps => BitVec.ofBool s.ppu.bcps.auto ++ d.extractLsb' 6 1 ++ s.ppu.bcps.index
  | .bcpd => s.cell (Key.bgPal s.ppu.bcps.index.toNat)
  | .ocps => BitVec.ofBool s.ppu.ocps.auto ++ d.extractLsb' 6 1 ++ s.ppu.ocps.index
  | .ocpd => s.cell (Key.objPal s.ppu.ocps.index.toNat)
  | .apu .nr52 => BitVec.ofBool s.apu.power ++ d.extractLsb' 0 7
  | .apu _ => d

/-- The byte the mediator yields for an address, `d` standing for every bit the spec leaves open (20_memory.md R80). -/
def peek (d : Byte) (addr : Word) (s : State) : Byte :=
  match locate s addr with
  | .rom key => s.cell key
  | .ram key => s.cell key
  | .nibble key => 0#4 ++ (s.cell key).extractLsb' 0 4
  | .rtc r => s.cart.mapper.rtc.get r
  | .noRam => d
  | .hole => 0x00
  | .io r => ioRead r d s
  | .soundUnused _ => d
  | .ie => d.extractLsb' 5 3 ++ s.ie
  | .undefined => d

/-- The PPU holds an address, 20_memory.md R116: under `hwAccessRestrictions` OAM in OamSearch and PixelTransfer, VRAM in
PixelTransfer. -/
def ppuHolds (addr : Word) (s : State) : Bool :=
  s.launch.hwAccessRestrictions &&
    ((decide (0xFE00 ≤ addr.toNat) && decide (addr.toNat < 0xFEA0) &&
       (decide (s.ppu.mode = .oamSearch) || decide (s.ppu.mode = .pixelTransfer))) ||
     (decide (0x8000 ≤ addr.toNat) && decide (addr.toNat < 0xA000) && decide (s.ppu.mode = .pixelTransfer)))

/-- The OAM transfer keeps the core from an address, 20_memory.md R116: under `hwAccessRestrictions` all but
FF80–FFFE. -/
def dmaHolds (addr : Word) (s : State) : Bool :=
  s.launch.hwAccessRestrictions && s.dma.oam.isSome && !(decide (0xFF80 ≤ addr.toNat) && decide (addr.toNat ≤ 0xFFFE))

/-- The core's access to an address is restricted, 20_memory.md R116. -/
def restricted (addr : Word) (s : State) : Bool := dmaHolds addr s || ppuHolds addr s

/-- What a read of the mediator faults with, 60_exceptions.md R472. -/
def busReadFault (addr : Word) (s : State) : Option FaultReason :=
  if locate s addr = .undefined then some (.undefinedIo addr .read) else none

/-- The byte a DMA read yields: a draw where the PPU holds the address, 20_memory.md R116, 60_exceptions.md R489. -/
def busByte (addr : Word) (s : State) : Byte :=
  if ppuHolds addr s then s.draw else peek s.draw addr s

/-- A read by the DMA engine, 60_exceptions.md R489: the core's but for the restriction that R116 gives reads by the core
alone (log 20). -/
def busRead (addr : Word) (s : State) : Access Byte :=
  match busReadFault addr s with
  | some r => .fault (raiseFault r s)
  | none => .ok (busByte addr s) s.countRead

/-- What a read by the core faults with; a restricted read is a draw and faults with nothing (log 20). -/
def readFault (addr : Word) (s : State) : Option FaultReason :=
  if restricted addr s then none else busReadFault addr s

/-- The byte a read by the core yields. -/
def readByte (addr : Word) (s : State) : Byte :=
  if restricted addr s then s.draw else peek s.draw addr s

/-- `MemRead(addr, 1)`, 00_scope.md R11. -/
def memRead (addr : Word) (s : State) : Access Byte :=
  match readFault addr s with
  | some r => .fault (raiseFault r s)
  | none => .ok (readByte addr s) s.countRead

/-! ### Writing -/

/-- The VRAM transfer an HDMA5 write starts, 60_exceptions.md R493: `(v[6:0] + 1) * 16` bytes. That its line count begins at
0, also in an HBlank whose quota of 16 is used up, is a DESIGN CHOICE (log 35). -/
def hdmaStart (g : Dma) (v : Byte) : VramXfer :=
  { kind := if v.getLsbD 7 then .hblank else .general
    src := g.hdma1 ++ (g.hdma2.extractLsb' 4 4 ++ 0#4)
    dst := 0x8000#16 + (0#3 ++ g.hdma3.extractLsb' 0 5 ++ g.hdma4.extractLsb' 4 4 ++ 0#4)
    remaining := ((v.extractLsb' 0 7).setWidth 16 + 1) * 16
    lineCount := 0 }

/-- A write to HDMA5, 60_exceptions.md R493: bit 7 = 0 stops an active HBlank-gated transfer; any other write starts
one. -/
def Dma.writeHdma5 (g : Dma) (v : Byte) : Dma :=
  match g.vram with
  | some x => if x.kind = .hblank ∧ !v.getLsbD 7 then { g with vram := none } else { g with vram := some (hdmaStart g v) }
  | none => { g with vram := some (hdmaStart g v) }

/-- A palette index register written, 60_exceptions.md R514. -/
def palIndexOf (v : Byte) : PalIndex := { index := v.extractLsb' 0 6, auto := v.getLsbD 7 }

/-- The index after a write of palette data: incremented modulo 64 when bit 7 is set (60_exceptions.md R514). -/
def PalIndex.afterWrite (x : PalIndex) : PalIndex := if x.auto then { x with index := x.index + 1 } else x

/-- A write to an I/O register. The spec's read-only and unused bits are ignored (92_eei_decisions.md D16). -/
def ioWrite (r : IoReg) (v : Byte) (s : State) : State :=
  match r with
  | .p1 => { s with pad := { s.pad with select := v.extractLsb' 4 2 } }
  | .div => { s with timer := { s.timer with div := 0, divSub := 0 } }
  | .tima => { s with timer := { s.timer with tima := v } }
  | .tma => { s with timer := { s.timer with tma := v } }
  | .tac => { s with timer := { s.timer with tac := v.extractLsb' 0 3 } }
  | .iflag => { s with iflag := v.extractLsb' 0 5 }
  | .lcdc =>
    { s with ppu := s.ppu.writeLcdc v
             sched := s.sched.afterClear (s.ppu.lcdOn && !v.getLsbD 7) }
  | .stat => { s with ppu := { s.ppu with statEnables := v.extractLsb' 3 4 } }
  | .scy => { s with ppu := { s.ppu with scy := v } }
  | .scx => { s with ppu := { s.ppu with scx := v } }
  | .ly => s
  | .lyc => { s with ppu := s.ppu.writeLyc v }
  | .dma => { s with dma := { s.dma with dmaReg := v, oam := some { page := v, index := 0 } } }
  | .bgp => { s with ppu := { s.ppu with bgp := v } }
  | .obp0 => { s with ppu := { s.ppu with obp0 := v } }
  | .obp1 => { s with ppu := { s.ppu with obp1 := v } }
  | .wy => { s with ppu := { s.ppu with wy := v } }
  | .wx => { s with ppu := { s.ppu with wx := v } }
  | .key1 => { s with speedArmed := v.getLsbD 0 }
  | .vbk => { s with ppu := { s.ppu with vbk := v.getLsbD 0 } }
  | .hdma1 => { s with dma := { s.dma with hdma1 := v } }
  | .hdma2 => { s with dma := { s.dma with hdma2 := v } }
  | .hdma3 => { s with dma := { s.dma with hdma3 := v } }
  | .hdma4 => { s with dma := { s.dma with hdma4 := v } }
  | .hdma5 => { s with dma := s.dma.writeHdma5 v }
  | .bcps => { s with ppu := { s.ppu with bcps := palIndexOf v } }
  | .bcpd =>
    { s.setCell (Key.bgPal s.ppu.bcps.index.toNat) v with ppu := { s.ppu with bcps := s.ppu.bcps.afterWrite } }
  | .ocps => { s with ppu := { s.ppu with ocps := palIndexOf v } }
  | .ocpd =>
    { s.setCell (Key.objPal s.ppu.ocps.index.toNat) v with ppu := { s.ppu with ocps := s.ppu.ocps.afterWrite } }
  | .apu q => { s with apu := s.apu.write q v }

/-- The bank controller written at a ROM address or an RTC register. -/
def State.setMapper (s : State) (m : Mapper) : State := { s with cart := { s.cart with mapper := m } }

/-- A write delivered to the mediator, 20_memory.md R80. -/
def poke (addr : Word) (v : Byte) (s : State) : State :=
  match locate s addr with
  | .rom _ => s.setMapper (s.cart.mapper.control addr v)
  | .ram key => s.setCell key v
  | .nibble key => s.setCell key (0#4 ++ v.extractLsb' 0 4)
  | .rtc r => s.setMapper (s.cart.mapper.setRtc r v)
  | .noRam => s
  | .hole => s
  | .io r => ioWrite r v s
  | .soundUnused key => s.setCell key v
  | .ie => { s with ie := v.extractLsb' 0 5 }
  | .undefined => s

/-- What a write by the core faults with, 60_exceptions.md R472 and R490; a restricted write has no effect at all. -/
def writeFault (addr : Word) (v : Byte) (s : State) : Option FaultReason :=
  if restricted addr s then none
  else if locate s addr = .undefined then some (.undefinedIo addr .write)
  else if locate s addr = .io .dma ∧ 0xE0 ≤ v.toNat then some (.dmaSourceUnmodelled v)
  else none

/-- The state after a write by the core that does not fault, 20_memory.md R116. -/
def writeByte (addr : Word) (v : Byte) (s : State) : State :=
  if restricted addr s then s else poke addr v s

/-- `MemWrite(addr, 1, v)`, 00_scope.md R11. -/
def memWrite (addr : Word) (v : Byte) (s : State) : Result :=
  match writeFault addr v s with
  | some r => .fault (raiseFault r s)
  | none => .next (writeByte addr v s)

/-! ### Fetch and stack, 00_scope.md R12 and R13 -/

/-- pc after one byte is fetched: it stays under `haltBugLatch`, which is then cleared (00_scope.md R12, 10_state.md R48). -/
def State.advancePc (s : State) : State :=
  if s.haltBugLatch then { s with haltBugLatch := false } else { s with pc := s.pc + 1 }

/-- `Fetch8()`. -/
def fetch8 (s : State) : Access Byte :=
  match memRead s.pc s with
  | .ok v t => .ok v t.advancePc
  | .fault f => .fault f

/-- `Push16(v)`. -/
def push16 (v : Word) (s : State) : Result :=
  andThen (memWrite (s.sp - 1) (hiByte v) (s.setSp (s.sp - 1))) fun t =>
    memWrite (t.sp - 1) (loByte v) (t.setSp (t.sp - 1))

/-- One byte popped. -/
def pop8 (s : State) : Access Byte :=
  match memRead s.sp s with
  | .ok v t => .ok v (t.setSp (t.sp + 1))
  | .fault f => .fault f

/-- `Pop16()`. -/
def pop16 (s : State) : Access Word :=
  match pop8 s with
  | .fault f => .fault f
  | .ok lo t =>
    match pop8 t with
    | .fault f => .fault f
    | .ok hi u => .ok (word hi lo) u

/-! ### The start of a step and the interrupt check, 60_exceptions.md R452, R455 to R464 -/

/-- Phase 0, EI promotion, 60_exceptions.md R455. -/
def promote (s : State) : State := if s.imePending then { s with ime := true, imePending := false } else s

/-- The start of a step: the host's sample arrives (60_exceptions.md R551), the cycle count is 0, phase 0 runs. -/
def beginStep (s : State) : State := promote { s with pad := s.pad.sample, cyc := 0 }

/-- The pending set, 60_exceptions.md R459. -/
def State.pending (s : State) : BitVec 5 := s.ie &&& s.iflag

/-- The first pending bit in priority order, 60_exceptions.md R460. -/
def firstPending (pend : BitVec 5) : Option IntSource :=
  if pend.getLsbD 0 then some .vblank
  else if pend.getLsbD 1 then some .lcdStat
  else if pend.getLsbD 2 then some .timer
  else if pend.getLsbD 3 then some .serial
  else if pend.getLsbD 4 then some .joypad
  else none

/-- What a dispatch does before it pushes pc, 60_exceptions.md R462. -/
def State.acknowledge (s : State) (n : IntSource) : State :=
  { s with iflag := s.iflag &&& ~~~n.mask, ime := false, halted := false }

/-- Taking an interrupt, 60_exceptions.md R462: the request bit, ime and halted are cleared, pc is pushed, pc goes to the
vector, the service cost is added. -/
def takeInterrupt (n : IntSource) (s : State) : Result :=
  andThen (push16 s.pc (s.acknowledge n)) fun t =>
    .next { t with pc := n.vector, cyc := t.cyc + Config.intServiceCycles }

/-- Returning from an interrupt handler, 44_control.md R390: pc is popped, ime is 1 at once. -/
def returnFromInterrupt (s : State) : Result :=
  withValue (pop16 s) fun v t => .next { t with pc := v, ime := true, imePending := false }

/-- Phase 2, the interrupt check, 60_exceptions.md R459 to R464: a dispatch when ime is set and not pending; otherwise a
pending interrupt ends a halt. -/
def checkInterrupts (s : State) : Result :=
  if s.ime && !s.imePending then
    match firstPending s.pending with
    | some n => takeInterrupt n s
    | none => .next s
  else if s.halted && decide (s.pending ≠ 0#5) then .next { s with halted := false }
  else .next s

end Sys2Proof.Machine
end

