-- ==== Sys2Proof/Machine/Dma.lean ====
section
/-! DEFINITION. The DMA engine's step and the busy conditions, 60_exceptions.md R487 to R497. The registers FF46 and
FF51–FF55 that start a transfer are in Machine/Ops.lean. -/

namespace Sys2Proof.Machine

/-! ### OAM DMA, 60_exceptions.md R491 -/

/-- The address of the byte the transfer reads next: `page*0x100 + index`. -/
def OamXfer.source (x : OamXfer) : Word := word x.page 0 + BitVec.ofNat 16 x.index

/-- The transfer after one byte: `none` when the 160th has moved. -/
def OamXfer.advance (x : OamXfer) : Option OamXfer :=
  if 160 ≤ x.index + 1 then none else some { x with index := x.index + 1 }

/-- One OAM DMA step. -/
def oamDmaStep (s : State) : Result :=
  match s.dma.oam with
  | none => .next s
  | some x =>
    withValue (busRead x.source s) fun v t =>
      .next { t.setCell (Key.oam x.index) v with dma := { t.dma with oam := x.advance } }

/-! ### VRAM DMA, 60_exceptions.md R494 to R497 -/

/-- The transfer after one byte: `none` when nothing remains (60_exceptions.md R497). The bytes of one line are counted by
the HBlank-gated kind only. -/
def VramXfer.advance (x : VramXfer) : Option VramXfer :=
  if x.remaining = 1#16 then none
  else some { x with src := x.src + 1, dst := x.dst + 1, remaining := x.remaining - 1,
                     lineCount := if x.kind = .hblank then x.lineCount + 1 else x.lineCount }

/-- The transfer is over before a copy: nothing remains, or the destination would be above 0x9FFF (60_exceptions.md
R497). -/
def VramXfer.exhausted (x : VramXfer) : Bool := decide (x.remaining = 0#16) || decide (0x9FFF < x.dst.toNat)

/-- One byte copied, or the transfer ended (60_exceptions.md R494, R497). -/
def vramCopy (x : VramXfer) (s : State) : Result :=
  if x.exhausted then .next { s with dma := { s.dma with vram := none } }
  else
    withValue (busRead x.src s) fun v t =>
      .next { t.setCell (Key.vram t.vramBank (x.dst.toNat - 0x8000)) v with
                dma := { t.dma with vram := x.advance } }

/-- At most `n` bytes of the running transfer copied in one go, until it ends. -/
def vramBurst (n : Nat) (s : State) : Result :=
  match n with
  | 0 => .next s
  | k + 1 =>
    match s.dma.vram with
    | none => .next s
    | some x => andThen (vramCopy x s) (vramBurst k)

/-- The HBlank-gated transfer's part of a DMA step, 60_exceptions.md R495: one byte in HBlank while the line's quota of 16
lasts; outside HBlank the quota is new (log 22). -/
def vramHblank (x : VramXfer) (s : State) : Result :=
  if s.ppu.mode = .hblank then
    if s.ppu.lcdOn && decide (x.lineCount < 16) then vramCopy x s else .next s
  else .next { s with dma := { s.dma with vram := some { x with lineCount := 0 } } }

/-- The VRAM transfer's part of a DMA step: a general-purpose transfer is copied whole (60_exceptions.md R494). -/
def vramDmaStep (s : State) : Result :=
  match s.dma.vram with
  | none => .next s
  | some x =>
    match x.kind with
    | .general => vramBurst (x.remaining.toNat + 1) s
    | .hblank => vramHblank x s

/-- One DMA step: the OAM transfer, then the VRAM transfer (60_exceptions.md R488). -/
def dmaStep (s : State) : Result := andThen (oamDmaStep s) vramDmaStep

/-! ### Busy conditions, 60_exceptions.md R492 -/

/-- "RAM busy": an OAM transfer is active. The host may read it; no instruction can. -/
def ramBusy (s : State) : Bool := s.dma.oam.isSome

/-- "ROM busy": a general-purpose VRAM transfer is active, which it is only until its burst (60_exceptions.md R494). -/
def romBusy (s : State) : Bool := s.dma.vram.any fun x => decide (x.kind = .general)

end Sys2Proof.Machine
end

