-- ==== Sys2Proof/Machine/Devices.lean ====
section
/-! DEFINITION. The device phase and the scheduler's accounting, 60_exceptions.md R457, R506, R507, R552, R560 to R562. -/

namespace Sys2Proof.Machine

/-- The bytes of OAM. -/
def State.oamByte (s : State) (i : Nat) : Byte := s.cell (Key.oam i)

/-- One PPU step with the interrupts it raises, 60_exceptions.md R504 and R506. -/
def ppuStep (s : State) : State :=
  let q := s.ppu.step s.oamByte
  { (s.raiseIf (s.ppu.entersVblank q) .vblank).raiseIf (s.ppu.raisesStat q s.launch.statLycInterrupt) .lcdStat with
      ppu := q, sched := s.sched.afterFrame (s.ppu.endsFrame q) }

/-- One timer step with the interrupt it raises, 60_exceptions.md R484 and R485. -/
def timerStep (s : State) : State := { s.raiseIf s.timer.overflows .timer with timer := s.timer.step }

/-- The joypad's sampling, 60_exceptions.md R552: it is made with the step's input and the selection the instruction
leaves, and, like every device, raises in the device phase (R457, log 7). -/
def padStep (s : State) : State := { s.raiseIf s.pad.falls .joypad with pad := s.pad.remember }

/-- One device cycle, 60_exceptions.md R560: the PPU, the timer, then the DMA engine. -/
def deviceCycle (s : State) : Result := dmaStep (timerStep (ppuStep s))

/-- `n` device cycles; a fault ends the phase at once (60_exceptions.md R473). -/
def deviceCycles (n : Nat) (s : State) : Result :=
  match n with
  | 0 => .next s
  | k + 1 => andThen (deviceCycle s) (deviceCycles k)

/-- `devCycles(cyc, speed0)`, 60_exceptions.md R561. -/
def devCycles (cyc : Nat) (speed0 : Bool) : Nat := if speed0 then cyc / 2 else cyc

/-- Phase 3, 60_exceptions.md R560: the devices take the step's cycles at the speed the step began with. -/
def devicePhase (speed0 : Bool) (s : State) : Result := deviceCycles (devCycles s.cyc speed0) (padStep s)

/-- Phase 4, frame accounting, 60_exceptions.md R562: the APU is called once per frame budget with the accumulated
cycles. -/
def accountFrame (s : State) : State :=
  if Config.frameBudget s.doubleSpeed ≤ s.sched.frameCycles + s.cyc then
    { s with apu := s.apu.batch (s.sched.frameCycles + s.cyc)
             sched := { s.sched with frameCycles := 0, apuBatches := s.sched.apuBatches + 1 } }
  else { s with sched := { s.sched with frameCycles := s.sched.frameCycles + s.cyc } }

end Sys2Proof.Machine
end

