-- ==== Sys2Proof/Machine/Flags.lean ====
section
/-! DEFINITION. Every computation that has flags: the 8-bit ALU functions (41_alu8.md R251 to R290), the 16-bit additions
(42_alu16.md R303 to R305), and the rotates and shifts (43_rotate_shift_bit.md R331 to R358). Each answers the result and
the flags it writes. -/

namespace Sys2Proof.Machine

/-! ### The ALU functions -/

/-- `add8(a, s)`, 41_alu8.md R251. -/
def add8 (a s : Byte) : Byte × Flags :=
  (a + s, { z := decide (a + s = 0#8), n := false,
            h := decide (a.toNat % 16 + s.toNat % 16 > 15), cy := decide (a.toNat + s.toNat > 255) })

/-- `adc8(a, s, c)`, 41_alu8.md R255. -/
def adc8 (a s : Byte) (c : Bool) : Byte × Flags :=
  let r := a + s + (BitVec.ofBool c).setWidth 8
  (r, { z := decide (r = 0#8), n := false,
        h := decide (a.toNat % 16 + s.toNat % 16 + c.toNat > 15), cy := decide (a.toNat + s.toNat + c.toNat > 255) })

/-- `sub8(a, s)`, 41_alu8.md R259. -/
def sub8 (a s : Byte) : Byte × Flags :=
  (a - s, { z := decide (a - s = 0#8), n := true,
            h := decide (a.toNat % 16 < s.toNat % 16), cy := decide (a.toNat < s.toNat) })

/-- `sbc8(a, s, c)`, 41_alu8.md R263. -/
def sbc8 (a s : Byte) (c : Bool) : Byte × Flags :=
  let r := a - s - (BitVec.ofBool c).setWidth 8
  (r, { z := decide (r = 0#8), n := true,
        h := decide (a.toNat % 16 < s.toNat % 16 + c.toNat), cy := decide (a.toNat < s.toNat + c.toNat) })

/-- `and8(a, s)`, 41_alu8.md R267. -/
def and8 (a s : Byte) : Byte × Flags :=
  (a &&& s, { z := decide (a &&& s = 0#8), n := false, h := true, cy := false })

/-- `xor8(a, s)`, 41_alu8.md R271. -/
def xor8 (a s : Byte) : Byte × Flags :=
  (a ^^^ s, { z := decide (a ^^^ s = 0#8), n := false, h := false, cy := false })

/-- `or8(a, s)`, 41_alu8.md R275. -/
def or8 (a s : Byte) : Byte × Flags :=
  (a ||| s, { z := decide (a ||| s = 0#8), n := false, h := false, cy := false })

/-- `cp8(a, s)`, 41_alu8.md R279: the flags of `sub8`; A stays. -/
def cp8 (a s : Byte) : Byte × Flags := (a, (sub8 a s).2)

/-- The ALU operation of 30_encoding.md R156 on A, an operand and the carry: the new A and the flags. -/
def alu8 (op : AluOp) (a s : Byte) (c : Bool) : Byte × Flags :=
  match op with
  | .add => add8 a s
  | .adc => adc8 a s c
  | .sub => sub8 a s
  | .sbc => sbc8 a s c
  | .and => and8 a s
  | .xor => xor8 a s
  | .or => or8 a s
  | .cp => cp8 a s

/-- The increment of 41_alu8.md R283; Cy is unchanged. -/
def inc8 (f : Flags) (v : Byte) : Byte × Flags :=
  (v + 1, { z := decide (v + 1 = 0#8), n := false, h := decide (v.toNat % 16 = 15), cy := f.cy })

/-- The decrement of 41_alu8.md R285; Cy is unchanged. -/
def dec8 (f : Flags) (v : Byte) : Byte × Flags :=
  (v - 1, { z := decide (v - 1 = 0#8), n := true, h := decide (v.toNat % 16 = 0), cy := f.cy })

/-! ### Accumulator adjustments -/

/-- DAA's adjustment of the low digit, 41_alu8.md R287. -/
def daaLow (a : Byte) (f : Flags) : Byte :=
  if f.h || (!f.n && decide (a.toNat % 16 > 9)) then 0x06 else 0x00

/-- DAA's adjustment of the high digit, 41_alu8.md R287. -/
def daaHigh (a : Byte) (f : Flags) : Byte :=
  if f.cy || (!f.n && decide (a.toNat > 0x99)) then 0x60 else 0x00

/-- DAA, 41_alu8.md R287: both tests read the original A; after a subtraction Cy is unchanged. -/
def daa8 (a : Byte) (f : Flags) : Byte × Flags :=
  let adj := daaLow a f ||| daaHigh a f
  let r := if f.n then a - adj else a + adj
  (r, { z := decide (r = 0#8), n := f.n, h := false, cy := f.cy || (!f.n && decide (a.toNat > 0x99)) })

/-- The flags CPL leaves, 41_alu8.md R288. -/
def cplFlags (f : Flags) : Flags := { f with n := true, h := true }

/-- The flags SCF leaves, 41_alu8.md R289. -/
def scfFlags (f : Flags) : Flags := { f with n := false, h := false, cy := true }

/-- The flags CCF leaves, 41_alu8.md R290. -/
def ccfFlags (f : Flags) : Flags := { f with n := false, h := false, cy := !f.cy }

/-! ### 16-bit additions -/

/-- ADD HL,ss, 42_alu16.md R303; Z is unchanged. -/
def add16 (f : Flags) (a s : Word) : Word × Flags :=
  (a + s, { z := f.z, n := false, h := decide (a.toNat % 0x1000 + s.toNat % 0x1000 > 0xFFF),
            cy := decide (a.toNat + s.toNat > 0xFFFF) })

/-- SP plus a signed displacement, 42_alu16.md R304: the flags come from the unsigned low bytes, whatever the sign. -/
def addSp (s : Word) (e : Byte) : Word × Flags :=
  (s + e.signExtend 16, { z := false, n := false, h := decide (s.toNat % 16 + e.toNat % 16 > 0xF),
                          cy := decide (s.toNat % 256 + e.toNat > 0xFF) })

/-! ### Rotates and shifts: the result and the bit shifted out -/

/-- `rlc(v)`, 43_rotate_shift_bit.md R335. -/
def rlc8 (v : Byte) : Byte × Bool := (v.extractLsb' 0 7 ++ v.extractLsb' 7 1, v.getLsbD 7)

/-- `rrc(v)`, 43_rotate_shift_bit.md R338. -/
def rrc8 (v : Byte) : Byte × Bool := (v.extractLsb' 0 1 ++ v.extractLsb' 1 7, v.getLsbD 0)

/-- `rl(v, cin)`, 43_rotate_shift_bit.md R341. -/
def rl8 (v : Byte) (cin : Bool) : Byte × Bool := (v.extractLsb' 0 7 ++ BitVec.ofBool cin, v.getLsbD 7)

/-- `rr(v, cin)`, 43_rotate_shift_bit.md R344. -/
def rr8 (v : Byte) (cin : Bool) : Byte × Bool := (BitVec.ofBool cin ++ v.extractLsb' 1 7, v.getLsbD 0)

/-- `sla(v)`, 43_rotate_shift_bit.md R347. -/
def sla8 (v : Byte) : Byte × Bool := (v.extractLsb' 0 7 ++ 0#1, v.getLsbD 7)

/-- `sra(v)`, 43_rotate_shift_bit.md R350. -/
def sra8 (v : Byte) : Byte × Bool := (v.extractLsb' 7 1 ++ v.extractLsb' 1 7, v.getLsbD 0)

/-- `swap(v)`, 43_rotate_shift_bit.md R353. -/
def swap8 (v : Byte) : Byte × Bool := (v.extractLsb' 0 4 ++ v.extractLsb' 4 4, false)

/-- `srl(v)`, 43_rotate_shift_bit.md R356. -/
def srl8 (v : Byte) : Byte × Bool := (0#1 ++ v.extractLsb' 1 7, v.getLsbD 0)

/-- The rotate or shift of 30_encoding.md R157 on a value and the old carry. -/
def rot8 (op : RotOp) (v : Byte) (cin : Bool) : Byte × Bool :=
  match op with
  | .rlc => rlc8 v
  | .rrc => rrc8 v
  | .rl => rl8 v cin
  | .rr => rr8 v cin
  | .sla => sla8 v
  | .sra => sra8 v
  | .swap => swap8 v
  | .srl => srl8 v

/-- The flags of a prefixed rotate or shift: `Z = (r == 0)`, `N = 0`, `H = 0`, `Cy = c` (43_rotate_shift_bit.md). -/
def rotFlags (r : Byte × Bool) : Flags := { z := decide (r.1 = 0#8), n := false, h := false, cy := r.2 }

/-- The flags of an accumulator rotate: Z is always 0 (43_rotate_shift_bit.md R330). -/
def accRotFlags (c : Bool) : Flags := { z := false, n := false, h := false, cy := c }

/-- The flags of BIT, 43_rotate_shift_bit.md R359: Cy is unchanged. -/
def bitFlags (f : Flags) (t : Bool) : Flags := { z := !t, n := false, h := true, cy := f.cy }

end Sys2Proof.Machine
end

