-- ==== Sys2Proof/Machine/Operands.lean ====
section
/-! DEFINITION. The operand forms of 30_encoding.md R152 to R159: register pairs, conditions, immediates, bit numbers, and
the shapes in which an instruction reads or writes its memory operand. -/

namespace Sys2Proof.Machine

/-! ### Register pairs -/

/-- `x[ss]`, 30_encoding.md R153. -/
def State.pair (s : State) (p : RegPair) : Word :=
  match p with
  | .bc => s.bc
  | .de => s.de
  | .hl => s.hl
  | .sp => s.sp

/-- `x[dd] <- v`, 30_encoding.md R153. -/
def State.setPair (s : State) (p : RegPair) (v : Word) : State :=
  match p with
  | .bc => s.setBC v
  | .de => s.setDE v
  | .hl => s.setHL v
  | .sp => s.setSp v

/-- `x[qq]`, 30_encoding.md R154. -/
def State.stackPair (s : State) (p : StackPair) : Word :=
  match p with
  | .bc => s.bc
  | .de => s.de
  | .hl => s.hl
  | .af => s.af

/-- `x[qq] <- v`, 30_encoding.md R154. -/
def State.setStackPair (s : State) (p : StackPair) (v : Word) : State :=
  match p with
  | .bc => s.setBC v
  | .de => s.setDE v
  | .hl => s.setHL v
  | .af => s.setAF v

/-! ### Conditions, 30_encoding.md R155 -/

/-- `cond(cc)`. -/
def Flags.holds (f : Flags) (cc : Cond) : Bool :=
  match cc with
  | .nz => !f.z
  | .z => f.z
  | .nc => !f.cy
  | .c => f.cy

/-! ### Immediates, 30_encoding.md R159 -/

/-- The I/O-page address `0xFF00 + zext_16(n)`. -/
def ioPage (n : Byte) : Word := 0xFF00#16 + n.setWidth 16

/-- The displacement `sext_16(e8)`. -/
def displacement (e : Byte) : Word := e.signExtend 16

/-- The RST target `zext_16(t * 8)`, 30_encoding.md R158. -/
def rstTarget (t : Fin 8) : Word := BitVec.ofNat 16 (t.val * 8)

/-! ### Single bits, 43_rotate_shift_bit.md R361 and R363 -/

/-- `v AND NOT (1 << b)`. -/
def clearBit (v : Byte) (b : Fin 8) : Byte := v &&& ~~~(1#8 <<< b.val)

/-- `v OR (1 << b)`. -/
def insertBit (v : Byte) (b : Fin 8) : Byte := v ||| (1#8 <<< b.val)

/-! ### Memory operands -/

/-- An instruction that reads one byte at `addr` and then only changes registers: `k` is what it does with the byte. -/
def withOperand (addr : Word) (cycles : Nat) (k : Byte → State → State) (s : State) : Result :=
  withValue (memRead addr s) fun v t => .next ((k v t).spend cycles)

/-- An instruction that stores one byte at `addr` and then only changes registers. -/
def storeOperand (addr : Word) (v : Byte) (cycles : Nat) (k : State → State) (s : State) : Result :=
  andThen (memWrite addr v s) fun t => .next ((k t).spend cycles)

/-- A read-modify-write of the byte at HL, 20_memory.md R95: `f` gives the byte stored and the flags, which are written
once the store is done (log 13). -/
def modifyHL (f : Byte → Byte × Flags) (s : State) (cycles : Nat) : Result :=
  withValue (memRead s.hl s) fun v t => storeOperand s.hl (f v).1 cycles (fun u => u.setFlags (f v).2) t

end Sys2Proof.Machine
end

