-- ==== Sys2Proof/Machine/Alu16.lean ====
section
/-! DEFINITION. The meanings of the 16-bit arithmetic instructions, 42_alu16.md R300 to R305. -/

namespace Sys2Proof.Machine

/-- INC ss and DEC ss, 42_alu16.md R301, R302: no flag changes. -/
def stepPair (d : Word) (p : RegPair) (s : State) : Result := .next ((s.setPair p (s.pair p + d)).spend 8)

/-- ADD HL,ss, 42_alu16.md R303. -/
def addToHL (p : RegPair) (s : State) : Result :=
  .next (((s.setHL (add16 s.flags s.hl (s.pair p)).1).setFlags (add16 s.flags s.hl (s.pair p)).2).spend 8)

/-- ADD SP,e8, 42_alu16.md R304. -/
def addToSp (e : Byte) (s : State) : Result :=
  .next (((s.setSp (addSp s.sp e).1).setFlags (addSp s.sp e).2).spend 16)

/-- LD HL,SP+e8, 42_alu16.md R305. -/
def loadHLFromSp (e : Byte) (s : State) : Result :=
  .next (((s.setHL (addSp s.sp e).1).setFlags (addSp s.sp e).2).spend 12)

/-- INC BC (03), R301. -/
def execIncBC (s : State) : Result := stepPair 1 .bc s

/-- ADD HL,BC (09), R303. -/
def execAddHLBC (s : State) : Result := addToHL .bc s

/-- DEC BC (0B), R302. -/
def execDecBC (s : State) : Result := stepPair (-1) .bc s

/-- INC DE (13), R301. -/
def execIncDE (s : State) : Result := stepPair 1 .de s

/-- ADD HL,DE (19), R303. -/
def execAddHLDE (s : State) : Result := addToHL .de s

/-- DEC DE (1B), R302. -/
def execDecDE (s : State) : Result := stepPair (-1) .de s

/-- INC HL (23), R301. -/
def execIncHL (s : State) : Result := stepPair 1 .hl s

/-- ADD HL,HL (29), R303. -/
def execAddHLHL (s : State) : Result := addToHL .hl s

/-- DEC HL (2B), R302. -/
def execDecHL (s : State) : Result := stepPair (-1) .hl s

/-- INC SP (33), R301. -/
def execIncSP (s : State) : Result := stepPair 1 .sp s

/-- ADD HL,SP (39), R303. -/
def execAddHLSP (s : State) : Result := addToHL .sp s

/-- DEC SP (3B), R302. -/
def execDecSP (s : State) : Result := stepPair (-1) .sp s

/-- ADD SP,e8 (E8), R304. -/
def execAddSPE8 (e : Byte) (s : State) : Result := addToSp e s

/-- LD HL,SP+e8 (F8), R305. -/
def execLdHLSPE8 (e : Byte) (s : State) : Result := loadHLFromSp e s

end Sys2Proof.Machine
end

