-- ==== Sys2Proof/Machine/Alu8.lean ====
section
/-! DEFINITION. The meanings of the 8-bit arithmetic and logic instructions, 41_alu8.md R250 to R290. -/

namespace Sys2Proof.Machine

/-- A and the flags after an ALU operation with the operand `v`, 41_alu8.md R250. -/
def State.applyAlu (s : State) (op : AluOp) (v : Byte) : State :=
  (s.setReg .a (alu8 op s.regs.a v s.flags.cy).1).setFlags (alu8 op s.regs.a v s.flags.cy).2

/-- The register form, 41_alu8.md R250. -/
def aluWithReg (op : AluOp) (r : Reg8) (s : State) : Result := .next ((s.applyAlu op (s.reg r)).spend 4)

/-- The immediate form, 41_alu8.md R250. -/
def aluWithImm (op : AluOp) (n : Byte) (s : State) : Result := .next ((s.applyAlu op n).spend 8)

/-- The (HL) form, 41_alu8.md R250. -/
def aluWithHL (op : AluOp) (s : State) : Result := withOperand s.hl 8 (fun v t => t.applyAlu op v) s

/-- INC r and DEC r, 41_alu8.md R283, R285. -/
def stepReg (f : Flags → Byte → Byte × Flags) (r : Reg8) (s : State) : Result :=
  .next (((s.setReg r (f s.flags (s.reg r)).1).setFlags (f s.flags (s.reg r)).2).spend 4)

/-- DAA, 41_alu8.md R287. -/
def decimalAdjust (s : State) : Result :=
  .next (((s.setReg .a (daa8 s.regs.a s.flags).1).setFlags (daa8 s.regs.a s.flags).2).spend 4)

/-- INC B (04), R283. -/
def execIncB (s : State) : Result := stepReg inc8 .b s

/-- DEC B (05), R285. -/
def execDecB (s : State) : Result := stepReg dec8 .b s

/-- INC C (0C), R283. -/
def execIncC (s : State) : Result := stepReg inc8 .c s

/-- DEC C (0D), R285. -/
def execDecC (s : State) : Result := stepReg dec8 .c s

/-- INC D (14), R283. -/
def execIncD (s : State) : Result := stepReg inc8 .d s

/-- DEC D (15), R285. -/
def execDecD (s : State) : Result := stepReg dec8 .d s

/-- INC E (1C), R283. -/
def execIncE (s : State) : Result := stepReg inc8 .e s

/-- DEC E (1D), R285. -/
def execDecE (s : State) : Result := stepReg dec8 .e s

/-- INC H (24), R283. -/
def execIncH (s : State) : Result := stepReg inc8 .h s

/-- DEC H (25), R285. -/
def execDecH (s : State) : Result := stepReg dec8 .h s

/-- DAA (27), R287. -/
def execDaa (s : State) : Result := decimalAdjust s

/-- INC L (2C), R283. -/
def execIncL (s : State) : Result := stepReg inc8 .l s

/-- DEC L (2D), R285. -/
def execDecL (s : State) : Result := stepReg dec8 .l s

/-- CPL (2F), R288. -/
def execCpl (s : State) : Result :=
  .next (((s.setReg .a (~~~s.regs.a)).setFlags (cplFlags s.flags)).spend 4)

/-- INC (HL) (34), R284. -/
def execIncAtHL (s : State) : Result := modifyHL (inc8 s.flags) s 12

/-- DEC (HL) (35), R286. -/
def execDecAtHL (s : State) : Result := modifyHL (dec8 s.flags) s 12

/-- SCF (37), R289. -/
def execScf (s : State) : Result := .next ((s.setFlags (scfFlags s.flags)).spend 4)

/-- INC A (3C), R283. -/
def execIncA (s : State) : Result := stepReg inc8 .a s

/-- DEC A (3D), R285. -/
def execDecA (s : State) : Result := stepReg dec8 .a s

/-- CCF (3F), R290. -/
def execCcf (s : State) : Result := .next ((s.setFlags (ccfFlags s.flags)).spend 4)

/-- ADD A,B (80), R252. -/
def execAddAB (s : State) : Result := aluWithReg .add .b s

/-- ADD A,C (81), R252. -/
def execAddAC (s : State) : Result := aluWithReg .add .c s

/-- ADD A,D (82), R252. -/
def execAddAD (s : State) : Result := aluWithReg .add .d s

/-- ADD A,E (83), R252. -/
def execAddAE (s : State) : Result := aluWithReg .add .e s

/-- ADD A,H (84), R252. -/
def execAddAH (s : State) : Result := aluWithReg .add .h s

/-- ADD A,L (85), R252. -/
def execAddAL (s : State) : Result := aluWithReg .add .l s

/-- ADD A,(HL) (86), R253. -/
def execAddAAtHL (s : State) : Result := aluWithHL .add s

/-- ADD A,A (87), R252. -/
def execAddAA (s : State) : Result := aluWithReg .add .a s

/-- ADC A,B (88), R256. -/
def execAdcAB (s : State) : Result := aluWithReg .adc .b s

/-- ADC A,C (89), R256. -/
def execAdcAC (s : State) : Result := aluWithReg .adc .c s

/-- ADC A,D (8A), R256. -/
def execAdcAD (s : State) : Result := aluWithReg .adc .d s

/-- ADC A,E (8B), R256. -/
def execAdcAE (s : State) : Result := aluWithReg .adc .e s

/-- ADC A,H (8C), R256. -/
def execAdcAH (s : State) : Result := aluWithReg .adc .h s

/-- ADC A,L (8D), R256. -/
def execAdcAL (s : State) : Result := aluWithReg .adc .l s

/-- ADC A,(HL) (8E), R257. -/
def execAdcAAtHL (s : State) : Result := aluWithHL .adc s

/-- ADC A,A (8F), R256. -/
def execAdcAA (s : State) : Result := aluWithReg .adc .a s

/-- SUB B (90), R260. -/
def execSubB (s : State) : Result := aluWithReg .sub .b s

/-- SUB C (91), R260. -/
def execSubC (s : State) : Result := aluWithReg .sub .c s

/-- SUB D (92), R260. -/
def execSubD (s : State) : Result := aluWithReg .sub .d s

/-- SUB E (93), R260. -/
def execSubE (s : State) : Result := aluWithReg .sub .e s

/-- SUB H (94), R260. -/
def execSubH (s : State) : Result := aluWithReg .sub .h s

/-- SUB L (95), R260. -/
def execSubL (s : State) : Result := aluWithReg .sub .l s

/-- SUB (HL) (96), R261. -/
def execSubAtHL (s : State) : Result := aluWithHL .sub s

/-- SUB A (97), R260. -/
def execSubA (s : State) : Result := aluWithReg .sub .a s

/-- SBC A,B (98), R264. -/
def execSbcAB (s : State) : Result := aluWithReg .sbc .b s

/-- SBC A,C (99), R264. -/
def execSbcAC (s : State) : Result := aluWithReg .sbc .c s

/-- SBC A,D (9A), R264. -/
def execSbcAD (s : State) : Result := aluWithReg .sbc .d s

/-- SBC A,E (9B), R264. -/
def execSbcAE (s : State) : Result := aluWithReg .sbc .e s

/-- SBC A,H (9C), R264. -/
def execSbcAH (s : State) : Result := aluWithReg .sbc .h s

/-- SBC A,L (9D), R264. -/
def execSbcAL (s : State) : Result := aluWithReg .sbc .l s

/-- SBC A,(HL) (9E), R265. -/
def execSbcAAtHL (s : State) : Result := aluWithHL .sbc s

/-- SBC A,A (9F), R264. -/
def execSbcAA (s : State) : Result := aluWithReg .sbc .a s

/-- AND B (A0), R268. -/
def execAndB (s : State) : Result := aluWithReg .and .b s

/-- AND C (A1), R268. -/
def execAndC (s : State) : Result := aluWithReg .and .c s

/-- AND D (A2), R268. -/
def execAndD (s : State) : Result := aluWithReg .and .d s

/-- AND E (A3), R268. -/
def execAndE (s : State) : Result := aluWithReg .and .e s

/-- AND H (A4), R268. -/
def execAndH (s : State) : Result := aluWithReg .and .h s

/-- AND L (A5), R268. -/
def execAndL (s : State) : Result := aluWithReg .and .l s

/-- AND (HL) (A6), R269. -/
def execAndAtHL (s : State) : Result := aluWithHL .and s

/-- AND A (A7), R268. -/
def execAndA (s : State) : Result := aluWithReg .and .a s

/-- XOR B (A8), R272. -/
def execXorB (s : State) : Result := aluWithReg .xor .b s

/-- XOR C (A9), R272. -/
def execXorC (s : State) : Result := aluWithReg .xor .c s

/-- XOR D (AA), R272. -/
def execXorD (s : State) : Result := aluWithReg .xor .d s

/-- XOR E (AB), R272. -/
def execXorE (s : State) : Result := aluWithReg .xor .e s

/-- XOR H (AC), R272. -/
def execXorH (s : State) : Result := aluWithReg .xor .h s

/-- XOR L (AD), R272. -/
def execXorL (s : State) : Result := aluWithReg .xor .l s

/-- XOR (HL) (AE), R273. -/
def execXorAtHL (s : State) : Result := aluWithHL .xor s

/-- XOR A (AF), R272. -/
def execXorA (s : State) : Result := aluWithReg .xor .a s

/-- OR B (B0), R276. -/
def execOrB (s : State) : Result := aluWithReg .or .b s

/-- OR C (B1), R276. -/
def execOrC (s : State) : Result := aluWithReg .or .c s

/-- OR D (B2), R276. -/
def execOrD (s : State) : Result := aluWithReg .or .d s

/-- OR E (B3), R276. -/
def execOrE (s : State) : Result := aluWithReg .or .e s

/-- OR H (B4), R276. -/
def execOrH (s : State) : Result := aluWithReg .or .h s

/-- OR L (B5), R276. -/
def execOrL (s : State) : Result := aluWithReg .or .l s

/-- OR (HL) (B6), R277. -/
def execOrAtHL (s : State) : Result := aluWithHL .or s

/-- OR A (B7), R276. -/
def execOrA (s : State) : Result := aluWithReg .or .a s

/-- CP B (B8), R280. -/
def execCpB (s : State) : Result := aluWithReg .cp .b s

/-- CP C (B9), R280. -/
def execCpC (s : State) : Result := aluWithReg .cp .c s

/-- CP D (BA), R280. -/
def execCpD (s : State) : Result := aluWithReg .cp .d s

/-- CP E (BB), R280. -/
def execCpE (s : State) : Result := aluWithReg .cp .e s

/-- CP H (BC), R280. -/
def execCpH (s : State) : Result := aluWithReg .cp .h s

/-- CP L (BD), R280. -/
def execCpL (s : State) : Result := aluWithReg .cp .l s

/-- CP (HL) (BE), R281. -/
def execCpAtHL (s : State) : Result := aluWithHL .cp s

/-- CP A (BF), R280. -/
def execCpA (s : State) : Result := aluWithReg .cp .a s

/-- ADD A,d8 (C6), R254. -/
def execAddAD8 (n : Byte) (s : State) : Result := aluWithImm .add n s

/-- ADC A,d8 (CE), R258. -/
def execAdcAD8 (n : Byte) (s : State) : Result := aluWithImm .adc n s

/-- SUB d8 (D6), R262. -/
def execSubD8 (n : Byte) (s : State) : Result := aluWithImm .sub n s

/-- SBC A,d8 (DE), R266. -/
def execSbcAD8 (n : Byte) (s : State) : Result := aluWithImm .sbc n s

/-- AND d8 (E6), R270. -/
def execAndD8 (n : Byte) (s : State) : Result := aluWithImm .and n s

/-- XOR d8 (EE), R274. -/
def execXorD8 (n : Byte) (s : State) : Result := aluWithImm .xor n s

/-- OR d8 (F6), R278. -/
def execOrD8 (n : Byte) (s : State) : Result := aluWithImm .or n s

/-- CP d8 (FE), R282. -/
def execCpD8 (n : Byte) (s : State) : Result := aluWithImm .cp n s

end Sys2Proof.Machine
end

