-- ==== Sys2Proof/Machine/Control.lean ====
section
/-! DEFINITION. The meanings of the control transfers, 44_control.md R380 to R391. pc is `pcNext` when a meaning runs. -/

namespace Sys2Proof.Machine

/-- A jump, 44_control.md R381, R383, R384. -/
def jumpTo (target : Word) (cycles : Nat) (s : State) : Result := .next ((s.setPc target).spend cycles)

/-- JP cc,a16, 44_control.md R382. -/
def jumpIf (cc : Cond) (target : Word) (s : State) : Result :=
  if s.flags.holds cc then jumpTo target 16 s else .next (s.spend 12)

/-- JR cc,e8, 44_control.md R385. -/
def relativeIf (cc : Cond) (e : Byte) (s : State) : Result :=
  if s.flags.holds cc then jumpTo (s.pc + displacement e) 12 s else .next (s.spend 8)

/-- A call: `pcNext` is pushed, pc goes to the target (44_control.md R386, R391). -/
def callTo (target : Word) (cycles : Nat) (s : State) : Result :=
  andThen (push16 s.pc s) (jumpTo target cycles)

/-- CALL cc,a16, 44_control.md R387. -/
def callIf (cc : Cond) (target : Word) (s : State) : Result :=
  if s.flags.holds cc then callTo target 24 s else .next (s.spend 12)

/-- A return: pc is popped (44_control.md R388). -/
def returnTo (cycles : Nat) (s : State) : Result := withValue (pop16 s) fun v t => jumpTo v cycles t

/-- RET cc, 44_control.md R389. -/
def returnIf (cc : Cond) (s : State) : Result :=
  if s.flags.holds cc then returnTo 20 s else .next (s.spend 8)

/-- JR e8 (18), R384. -/
def execJrE8 (e : Byte) (s : State) : Result := jumpTo (s.pc + displacement e) 12 s

/-- JR NZ,e8 (20), R385. -/
def execJrNZE8 (e : Byte) (s : State) : Result := relativeIf .nz e s

/-- JR Z,e8 (28), R385. -/
def execJrZE8 (e : Byte) (s : State) : Result := relativeIf .z e s

/-- JR NC,e8 (30), R385. -/
def execJrNCE8 (e : Byte) (s : State) : Result := relativeIf .nc e s

/-- JR C,e8 (38), R385. -/
def execJrCE8 (e : Byte) (s : State) : Result := relativeIf .c e s

/-- RET NZ (C0), R389. -/
def execRetNZ (s : State) : Result := returnIf .nz s

/-- JP NZ,a16 (C2), R382. -/
def execJpNZA16 (nn : Word) (s : State) : Result := jumpIf .nz nn s

/-- JP a16 (C3), R381. -/
def execJpA16 (nn : Word) (s : State) : Result := jumpTo nn 16 s

/-- CALL NZ,a16 (C4), R387. -/
def execCallNZA16 (nn : Word) (s : State) : Result := callIf .nz nn s

/-- RST 00H (C7), R391. -/
def execRst00H (s : State) : Result := callTo (rstTarget 0) 16 s

/-- RET Z (C8), R389. -/
def execRetZ (s : State) : Result := returnIf .z s

/-- RET (C9), R388. -/
def execRet (s : State) : Result := returnTo 16 s

/-- JP Z,a16 (CA), R382. -/
def execJpZA16 (nn : Word) (s : State) : Result := jumpIf .z nn s

/-- CALL Z,a16 (CC), R387. -/
def execCallZA16 (nn : Word) (s : State) : Result := callIf .z nn s

/-- CALL a16 (CD), R386. -/
def execCallA16 (nn : Word) (s : State) : Result := callTo nn 24 s

/-- RST 08H (CF), R391. -/
def execRst08H (s : State) : Result := callTo (rstTarget 1) 16 s

/-- RET NC (D0), R389. -/
def execRetNC (s : State) : Result := returnIf .nc s

/-- JP NC,a16 (D2), R382. -/
def execJpNCA16 (nn : Word) (s : State) : Result := jumpIf .nc nn s

/-- CALL NC,a16 (D4), R387. -/
def execCallNCA16 (nn : Word) (s : State) : Result := callIf .nc nn s

/-- RST 10H (D7), R391. -/
def execRst10H (s : State) : Result := callTo (rstTarget 2) 16 s

/-- RET C (D8), R389. -/
def execRetC (s : State) : Result := returnIf .c s

/-- RETI (D9), R390. -/
def execReti (s : State) : Result := andThen (returnFromInterrupt s) fun t => .next (t.spend 16)

/-- JP C,a16 (DA), R382. -/
def execJpCA16 (nn : Word) (s : State) : Result := jumpIf .c nn s

/-- CALL C,a16 (DC), R387. -/
def execCallCA16 (nn : Word) (s : State) : Result := callIf .c nn s

/-- RST 18H (DF), R391. -/
def execRst18H (s : State) : Result := callTo (rstTarget 3) 16 s

/-- RST 20H (E7), R391. -/
def execRst20H (s : State) : Result := callTo (rstTarget 4) 16 s

/-- JP HL (E9), R383. -/
def execJpHL (s : State) : Result := jumpTo s.hl 4 s

/-- RST 28H (EF), R391. -/
def execRst28H (s : State) : Result := callTo (rstTarget 5) 16 s

/-- RST 30H (F7), R391. -/
def execRst30H (s : State) : Result := callTo (rstTarget 6) 16 s

/-- RST 38H (FF), R391. -/
def execRst38H (s : State) : Result := callTo (rstTarget 7) 16 s

end Sys2Proof.Machine
end

