-- ==== Sys2Proof/Machine/Load.lean ====
section
/-! DEFINITION. The meanings of the loads, stores and stack instructions, 40_load.md R200 to R224. A meaning gets the state
after the instruction's bytes are fetched: pc is `pcNext` (00_scope.md R12). -/

namespace Sys2Proof.Machine

/-- LD r,r', 40_load.md R201. -/
def loadReg (dst src : Reg8) (s : State) : Result := .next ((s.setReg dst (s.reg src)).spend 4)

/-- LD r,d8, 40_load.md R202. -/
def loadImm (dst : Reg8) (n : Byte) (s : State) : Result := .next ((s.setReg dst n).spend 8)

/-- A register loaded with the byte at `addr`, 40_load.md R203, R206, R207, R210, R212, R214. -/
def loadFrom (dst : Reg8) (addr : Word) (cycles : Nat) (s : State) : Result :=
  withOperand addr cycles (fun v t => t.setReg dst v) s

/-- A register stored at `addr`, 40_load.md R204, R208, R209, R211, R213, R215. -/
def storeReg (src : Reg8) (addr : Word) (cycles : Nat) (s : State) : Result :=
  storeOperand addr (s.reg src) cycles id s

/-- A loaded from HL, then HL moved by `d`, 40_load.md R216, R217. -/
def loadStep (d : Word) (s : State) : Result :=
  withOperand s.hl 8 (fun v t => (t.setReg .a v).setHL (t.hl + d)) s

/-- A stored at HL, then HL moved by `d`, 40_load.md R218, R219. -/
def storeStep (d : Word) (s : State) : Result :=
  storeOperand s.hl s.regs.a 8 (fun t => t.setHL (t.hl + d)) s

/-- LD dd,d16, 40_load.md R220. -/
def loadPair (p : RegPair) (nn : Word) (s : State) : Result := .next ((s.setPair p nn).spend 12)

/-- LD (a16),SP, 40_load.md R221: low byte first. -/
def storeSp (nn : Word) (s : State) : Result :=
  andThen (memWrite nn (loByte s.sp) s) (storeOperand (nn + 1) (hiByte s.sp) 20 id)

/-- PUSH qq, 40_load.md R223. -/
def pushPair (p : StackPair) (s : State) : Result := andThen (push16 (s.stackPair p) s) fun t => .next (t.spend 16)

/-- POP qq, 40_load.md R224. -/
def popPair (p : StackPair) (s : State) : Result :=
  withValue (pop16 s) fun v t => .next ((t.setStackPair p v).spend 12)

/-- LD BC,d16 (01), R220. -/
def execLdBCD16 (nn : Word) (s : State) : Result := loadPair .bc nn s

/-- LD (BC),A (02), R208. -/
def execLdAtBCA (s : State) : Result := storeReg .a s.bc 8 s

/-- LD B,d8 (06), R202. -/
def execLdBD8 (n : Byte) (s : State) : Result := loadImm .b n s

/-- LD (a16),SP (08), R221. -/
def execLdAtA16SP (nn : Word) (s : State) : Result := storeSp nn s

/-- LD A,(BC) (0A), R206. -/
def execLdAAtBC (s : State) : Result := loadFrom .a s.bc 8 s

/-- LD C,d8 (0E), R202. -/
def execLdCD8 (n : Byte) (s : State) : Result := loadImm .c n s

/-- LD DE,d16 (11), R220. -/
def execLdDED16 (nn : Word) (s : State) : Result := loadPair .de nn s

/-- LD (DE),A (12), R209. -/
def execLdAtDEA (s : State) : Result := storeReg .a s.de 8 s

/-- LD D,d8 (16), R202. -/
def execLdDD8 (n : Byte) (s : State) : Result := loadImm .d n s

/-- LD A,(DE) (1A), R207. -/
def execLdAAtDE (s : State) : Result := loadFrom .a s.de 8 s

/-- LD E,d8 (1E), R202. -/
def execLdED8 (n : Byte) (s : State) : Result := loadImm .e n s

/-- LD HL,d16 (21), R220. -/
def execLdHLD16 (nn : Word) (s : State) : Result := loadPair .hl nn s

/-- LD (HL+),A (22), R218. -/
def execLdAtHLIncA (s : State) : Result := storeStep 1 s

/-- LD H,d8 (26), R202. -/
def execLdHD8 (n : Byte) (s : State) : Result := loadImm .h n s

/-- LD A,(HL+) (2A), R216. -/
def execLdAAtHLInc (s : State) : Result := loadStep 1 s

/-- LD L,d8 (2E), R202. -/
def execLdLD8 (n : Byte) (s : State) : Result := loadImm .l n s

/-- LD SP,d16 (31), R220. -/
def execLdSPD16 (nn : Word) (s : State) : Result := loadPair .sp nn s

/-- LD (HL-),A (32), R219. -/
def execLdAtHLDecA (s : State) : Result := storeStep (-1) s

/-- LD (HL),d8 (36), R205. -/
def execLdAtHLD8 (n : Byte) (s : State) : Result := storeOperand s.hl n 12 id s

/-- LD A,(HL-) (3A), R217. -/
def execLdAAtHLDec (s : State) : Result := loadStep (-1) s

/-- LD A,d8 (3E), R202. -/
def execLdAD8 (n : Byte) (s : State) : Result := loadImm .a n s

/-- LD B,B (40), R201. -/
def execLdBB (s : State) : Result := loadReg .b .b s

/-- LD B,C (41), R201. -/
def execLdBC (s : State) : Result := loadReg .b .c s

/-- LD B,D (42), R201. -/
def execLdBD (s : State) : Result := loadReg .b .d s

/-- LD B,E (43), R201. -/
def execLdBE (s : State) : Result := loadReg .b .e s

/-- LD B,H (44), R201. -/
def execLdBH (s : State) : Result := loadReg .b .h s

/-- LD B,L (45), R201. -/
def execLdBL (s : State) : Result := loadReg .b .l s

/-- LD B,(HL) (46), R203. -/
def execLdBAtHL (s : State) : Result := loadFrom .b s.hl 8 s

/-- LD B,A (47), R201. -/
def execLdBA (s : State) : Result := loadReg .b .a s

/-- LD C,B (48), R201. -/
def execLdCB (s : State) : Result := loadReg .c .b s

/-- LD C,C (49), R201. -/
def execLdCC (s : State) : Result := loadReg .c .c s

/-- LD C,D (4A), R201. -/
def execLdCD (s : State) : Result := loadReg .c .d s

/-- LD C,E (4B), R201. -/
def execLdCE (s : State) : Result := loadReg .c .e s

/-- LD C,H (4C), R201. -/
def execLdCH (s : State) : Result := loadReg .c .h s

/-- LD C,L (4D), R201. -/
def execLdCL (s : State) : Result := loadReg .c .l s

/-- LD C,(HL) (4E), R203. -/
def execLdCAtHL (s : State) : Result := loadFrom .c s.hl 8 s

/-- LD C,A (4F), R201. -/
def execLdCA (s : State) : Result := loadReg .c .a s

/-- LD D,B (50), R201. -/
def execLdDB (s : State) : Result := loadReg .d .b s

/-- LD D,C (51), R201. -/
def execLdDC (s : State) : Result := loadReg .d .c s

/-- LD D,D (52), R201. -/
def execLdDD (s : State) : Result := loadReg .d .d s

/-- LD D,E (53), R201. -/
def execLdDE (s : State) : Result := loadReg .d .e s

/-- LD D,H (54), R201. -/
def execLdDH (s : State) : Result := loadReg .d .h s

/-- LD D,L (55), R201. -/
def execLdDL (s : State) : Result := loadReg .d .l s

/-- LD D,(HL) (56), R203. -/
def execLdDAtHL (s : State) : Result := loadFrom .d s.hl 8 s

/-- LD D,A (57), R201. -/
def execLdDA (s : State) : Result := loadReg .d .a s

/-- LD E,B (58), R201. -/
def execLdEB (s : State) : Result := loadReg .e .b s

/-- LD E,C (59), R201. -/
def execLdEC (s : State) : Result := loadReg .e .c s

/-- LD E,D (5A), R201. -/
def execLdED (s : State) : Result := loadReg .e .d s

/-- LD E,E (5B), R201. -/
def execLdEE (s : State) : Result := loadReg .e .e s

/-- LD E,H (5C), R201. -/
def execLdEH (s : State) : Result := loadReg .e .h s

/-- LD E,L (5D), R201. -/
def execLdEL (s : State) : Result := loadReg .e .l s

/-- LD E,(HL) (5E), R203. -/
def execLdEAtHL (s : State) : Result := loadFrom .e s.hl 8 s

/-- LD E,A (5F), R201. -/
def execLdEA (s : State) : Result := loadReg .e .a s

/-- LD H,B (60), R201. -/
def execLdHB (s : State) : Result := loadReg .h .b s

/-- LD H,C (61), R201. -/
def execLdHC (s : State) : Result := loadReg .h .c s

/-- LD H,D (62), R201. -/
def execLdHD (s : State) : Result := loadReg .h .d s

/-- LD H,E (63), R201. -/
def execLdHE (s : State) : Result := loadReg .h .e s

/-- LD H,H (64), R201. -/
def execLdHH (s : State) : Result := loadReg .h .h s

/-- LD H,L (65), R201. -/
def execLdHL (s : State) : Result := loadReg .h .l s

/-- LD H,(HL) (66), R203. -/
def execLdHAtHL (s : State) : Result := loadFrom .h s.hl 8 s

/-- LD H,A (67), R201. -/
def execLdHA (s : State) : Result := loadReg .h .a s

/-- LD L,B (68), R201. -/
def execLdLB (s : State) : Result := loadReg .l .b s

/-- LD L,C (69), R201. -/
def execLdLC (s : State) : Result := loadReg .l .c s

/-- LD L,D (6A), R201. -/
def execLdLD (s : State) : Result := loadReg .l .d s

/-- LD L,E (6B), R201. -/
def execLdLE (s : State) : Result := loadReg .l .e s

/-- LD L,H (6C), R201. -/
def execLdLH (s : State) : Result := loadReg .l .h s

/-- LD L,L (6D), R201. -/
def execLdLL (s : State) : Result := loadReg .l .l s

/-- LD L,(HL) (6E), R203. -/
def execLdLAtHL (s : State) : Result := loadFrom .l s.hl 8 s

/-- LD L,A (6F), R201. -/
def execLdLA (s : State) : Result := loadReg .l .a s

/-- LD (HL),B (70), R204. -/
def execLdAtHLB (s : State) : Result := storeReg .b s.hl 8 s

/-- LD (HL),C (71), R204. -/
def execLdAtHLC (s : State) : Result := storeReg .c s.hl 8 s

/-- LD (HL),D (72), R204. -/
def execLdAtHLD (s : State) : Result := storeReg .d s.hl 8 s

/-- LD (HL),E (73), R204. -/
def execLdAtHLE (s : State) : Result := storeReg .e s.hl 8 s

/-- LD (HL),H (74), R204. -/
def execLdAtHLH (s : State) : Result := storeReg .h s.hl 8 s

/-- LD (HL),L (75), R204. -/
def execLdAtHLL (s : State) : Result := storeReg .l s.hl 8 s

/-- LD (HL),A (77), R204. -/
def execLdAtHLA (s : State) : Result := storeReg .a s.hl 8 s

/-- LD A,B (78), R201. -/
def execLdAB (s : State) : Result := loadReg .a .b s

/-- LD A,C (79), R201. -/
def execLdAC (s : State) : Result := loadReg .a .c s

/-- LD A,D (7A), R201. -/
def execLdAD (s : State) : Result := loadReg .a .d s

/-- LD A,E (7B), R201. -/
def execLdAE (s : State) : Result := loadReg .a .e s

/-- LD A,H (7C), R201. -/
def execLdAH (s : State) : Result := loadReg .a .h s

/-- LD A,L (7D), R201. -/
def execLdAL (s : State) : Result := loadReg .a .l s

/-- LD A,(HL) (7E), R203. -/
def execLdAAtHL (s : State) : Result := loadFrom .a s.hl 8 s

/-- LD A,A (7F), R201. -/
def execLdAA (s : State) : Result := loadReg .a .a s

/-- POP BC (C1), R224. -/
def execPopBC (s : State) : Result := popPair .bc s

/-- PUSH BC (C5), R223. -/
def execPushBC (s : State) : Result := pushPair .bc s

/-- POP DE (D1), R224. -/
def execPopDE (s : State) : Result := popPair .de s

/-- PUSH DE (D5), R223. -/
def execPushDE (s : State) : Result := pushPair .de s

/-- LDH (a8),A (E0), R213. -/
def execLdhAtA8A (n : Byte) (s : State) : Result := storeReg .a (ioPage n) 12 s

/-- POP HL (E1), R224. -/
def execPopHL (s : State) : Result := popPair .hl s

/-- LD (C),A (E2), R215. -/
def execLdAtCA (s : State) : Result := storeReg .a (ioPage s.regs.c) 8 s

/-- PUSH HL (E5), R223. -/
def execPushHL (s : State) : Result := pushPair .hl s

/-- LD (a16),A (EA), R211. -/
def execLdAtA16A (nn : Word) (s : State) : Result := storeReg .a nn 16 s

/-- LDH A,(a8) (F0), R212. -/
def execLdhAAtA8 (n : Byte) (s : State) : Result := loadFrom .a (ioPage n) 12 s

/-- POP AF (F1), R224. -/
def execPopAF (s : State) : Result := popPair .af s

/-- LD A,(C) (F2), R214. -/
def execLdAAtC (s : State) : Result := loadFrom .a (ioPage s.regs.c) 8 s

/-- PUSH AF (F5), R223. -/
def execPushAF (s : State) : Result := pushPair .af s

/-- LD SP,HL (F9), R222. -/
def execLdSPHL (s : State) : Result := .next ((s.setSp s.hl).spend 8)

/-- LD A,(a16) (FA), R210. -/
def execLdAAtA16 (nn : Word) (s : State) : Result := loadFrom .a nn 16 s

end Sys2Proof.Machine
end

