-- ==== Sys2Proof/Machine/Rotate.lean ====
section
/-! DEFINITION. The meanings of the rotates, shifts and single-bit instructions, 43_rotate_shift_bit.md R330 to R364. -/

namespace Sys2Proof.Machine

/-- The accumulator rotates, 43_rotate_shift_bit.md R331 to R334. -/
def rotateAcc (op : RotOp) (s : State) : Result :=
  .next (((s.setReg .a (rot8 op s.regs.a s.flags.cy).1).setFlags
    (accRotFlags (rot8 op s.regs.a s.flags.cy).2)).spend 4)

/-- The register form of a prefixed rotate or shift, 43_rotate_shift_bit.md R330. -/
def rotateReg (op : RotOp) (r : Reg8) (s : State) : Result :=
  .next (((s.setReg r (rot8 op (s.reg r) s.flags.cy).1).setFlags
    (rotFlags (rot8 op (s.reg r) s.flags.cy))).spend 8)

/-- The (HL) form of a prefixed rotate or shift, 43_rotate_shift_bit.md R330. -/
def rotateHL (op : RotOp) (s : State) : Result :=
  modifyHL (fun v => ((rot8 op v s.flags.cy).1, rotFlags (rot8 op v s.flags.cy))) s 16

/-- BIT b,r, 43_rotate_shift_bit.md R359. -/
def testBitReg (b : Fin 8) (r : Reg8) (s : State) : Result :=
  .next ((s.setFlags (bitFlags s.flags ((s.reg r).getLsbD b.val))).spend 8)

/-- BIT b,(HL), 43_rotate_shift_bit.md R360. -/
def testBitHL (b : Fin 8) (s : State) : Result :=
  withOperand s.hl 12 (fun v t => t.setFlags (bitFlags t.flags (v.getLsbD b.val))) s

/-- RES b,r, 43_rotate_shift_bit.md R361. -/
def resetBitReg (b : Fin 8) (r : Reg8) (s : State) : Result :=
  .next ((s.setReg r (clearBit (s.reg r) b)).spend 8)

/-- RES b,(HL), 43_rotate_shift_bit.md R362. -/
def resetBitHL (b : Fin 8) (s : State) : Result := modifyHL (fun v => (clearBit v b, s.flags)) s 16

/-- SET b,r, 43_rotate_shift_bit.md R363. -/
def setBitReg (b : Fin 8) (r : Reg8) (s : State) : Result :=
  .next ((s.setReg r (insertBit (s.reg r) b)).spend 8)

/-- SET b,(HL), 43_rotate_shift_bit.md R364. -/
def setBitHL (b : Fin 8) (s : State) : Result := modifyHL (fun v => (insertBit v b, s.flags)) s 16

/-- RLCA (07), R331. -/
def execRlca (s : State) : Result := rotateAcc .rlc s

/-- RRCA (0F), R332. -/
def execRrca (s : State) : Result := rotateAcc .rrc s

/-- RLA (17), R333. -/
def execRla (s : State) : Result := rotateAcc .rl s

/-- RRA (1F), R334. -/
def execRra (s : State) : Result := rotateAcc .rr s

/-- RLC B (CB 00), R336. -/
def execRlcB (s : State) : Result := rotateReg .rlc .b s

/-- RLC C (CB 01), R336. -/
def execRlcC (s : State) : Result := rotateReg .rlc .c s

/-- RLC D (CB 02), R336. -/
def execRlcD (s : State) : Result := rotateReg .rlc .d s

/-- RLC E (CB 03), R336. -/
def execRlcE (s : State) : Result := rotateReg .rlc .e s

/-- RLC H (CB 04), R336. -/
def execRlcH (s : State) : Result := rotateReg .rlc .h s

/-- RLC L (CB 05), R336. -/
def execRlcL (s : State) : Result := rotateReg .rlc .l s

/-- RLC (HL) (CB 06), R337. -/
def execRlcAtHL (s : State) : Result := rotateHL .rlc s

/-- RLC A (CB 07), R336. -/
def execRlcA (s : State) : Result := rotateReg .rlc .a s

/-- RRC B (CB 08), R339. -/
def execRrcB (s : State) : Result := rotateReg .rrc .b s

/-- RRC C (CB 09), R339. -/
def execRrcC (s : State) : Result := rotateReg .rrc .c s

/-- RRC D (CB 0A), R339. -/
def execRrcD (s : State) : Result := rotateReg .rrc .d s

/-- RRC E (CB 0B), R339. -/
def execRrcE (s : State) : Result := rotateReg .rrc .e s

/-- RRC H (CB 0C), R339. -/
def execRrcH (s : State) : Result := rotateReg .rrc .h s

/-- RRC L (CB 0D), R339. -/
def execRrcL (s : State) : Result := rotateReg .rrc .l s

/-- RRC (HL) (CB 0E), R340. -/
def execRrcAtHL (s : State) : Result := rotateHL .rrc s

/-- RRC A (CB 0F), R339. -/
def execRrcA (s : State) : Result := rotateReg .rrc .a s

/-- RL B (CB 10), R342. -/
def execRlB (s : State) : Result := rotateReg .rl .b s

/-- RL C (CB 11), R342. -/
def execRlC (s : State) : Result := rotateReg .rl .c s

/-- RL D (CB 12), R342. -/
def execRlD (s : State) : Result := rotateReg .rl .d s

/-- RL E (CB 13), R342. -/
def execRlE (s : State) : Result := rotateReg .rl .e s

/-- RL H (CB 14), R342. -/
def execRlH (s : State) : Result := rotateReg .rl .h s

/-- RL L (CB 15), R342. -/
def execRlL (s : State) : Result := rotateReg .rl .l s

/-- RL (HL) (CB 16), R343. -/
def execRlAtHL (s : State) : Result := rotateHL .rl s

/-- RL A (CB 17), R342. -/
def execRlA (s : State) : Result := rotateReg .rl .a s

/-- RR B (CB 18), R345. -/
def execRrB (s : State) : Result := rotateReg .rr .b s

/-- RR C (CB 19), R345. -/
def execRrC (s : State) : Result := rotateReg .rr .c s

/-- RR D (CB 1A), R345. -/
def execRrD (s : State) : Result := rotateReg .rr .d s

/-- RR E (CB 1B), R345. -/
def execRrE (s : State) : Result := rotateReg .rr .e s

/-- RR H (CB 1C), R345. -/
def execRrH (s : State) : Result := rotateReg .rr .h s

/-- RR L (CB 1D), R345. -/
def execRrL (s : State) : Result := rotateReg .rr .l s

/-- RR (HL) (CB 1E), R346. -/
def execRrAtHL (s : State) : Result := rotateHL .rr s

/-- RR A (CB 1F), R345. -/
def execRrA (s : State) : Result := rotateReg .rr .a s

/-- SLA B (CB 20), R348. -/
def execSlaB (s : State) : Result := rotateReg .sla .b s

/-- SLA C (CB 21), R348. -/
def execSlaC (s : State) : Result := rotateReg .sla .c s

/-- SLA D (CB 22), R348. -/
def execSlaD (s : State) : Result := rotateReg .sla .d s

/-- SLA E (CB 23), R348. -/
def execSlaE (s : State) : Result := rotateReg .sla .e s

/-- SLA H (CB 24), R348. -/
def execSlaH (s : State) : Result := rotateReg .sla .h s

/-- SLA L (CB 25), R348. -/
def execSlaL (s : State) : Result := rotateReg .sla .l s

/-- SLA (HL) (CB 26), R349. -/
def execSlaAtHL (s : State) : Result := rotateHL .sla s

/-- SLA A (CB 27), R348. -/
def execSlaA (s : State) : Result := rotateReg .sla .a s

/-- SRA B (CB 28), R351. -/
def execSraB (s : State) : Result := rotateReg .sra .b s

/-- SRA C (CB 29), R351. -/
def execSraC (s : State) : Result := rotateReg .sra .c s

/-- SRA D (CB 2A), R351. -/
def execSraD (s : State) : Result := rotateReg .sra .d s

/-- SRA E (CB 2B), R351. -/
def execSraE (s : State) : Result := rotateReg .sra .e s

/-- SRA H (CB 2C), R351. -/
def execSraH (s : State) : Result := rotateReg .sra .h s

/-- SRA L (CB 2D), R351. -/
def execSraL (s : State) : Result := rotateReg .sra .l s

/-- SRA (HL) (CB 2E), R352. -/
def execSraAtHL (s : State) : Result := rotateHL .sra s

/-- SRA A (CB 2F), R351. -/
def execSraA (s : State) : Result := rotateReg .sra .a s

/-- SWAP B (CB 30), R354. -/
def execSwapB (s : State) : Result := rotateReg .swap .b s

/-- SWAP C (CB 31), R354. -/
def execSwapC (s : State) : Result := rotateReg .swap .c s

/-- SWAP D (CB 32), R354. -/
def execSwapD (s : State) : Result := rotateReg .swap .d s

/-- SWAP E (CB 33), R354. -/
def execSwapE (s : State) : Result := rotateReg .swap .e s

/-- SWAP H (CB 34), R354. -/
def execSwapH (s : State) : Result := rotateReg .swap .h s

/-- SWAP L (CB 35), R354. -/
def execSwapL (s : State) : Result := rotateReg .swap .l s

/-- SWAP (HL) (CB 36), R355. -/
def execSwapAtHL (s : State) : Result := rotateHL .swap s

/-- SWAP A (CB 37), R354. -/
def execSwapA (s : State) : Result := rotateReg .swap .a s

/-- SRL B (CB 38), R357. -/
def execSrlB (s : State) : Result := rotateReg .srl .b s

/-- SRL C (CB 39), R357. -/
def execSrlC (s : State) : Result := rotateReg .srl .c s

/-- SRL D (CB 3A), R357. -/
def execSrlD (s : State) : Result := rotateReg .srl .d s

/-- SRL E (CB 3B), R357. -/
def execSrlE (s : State) : Result := rotateReg .srl .e s

/-- SRL H (CB 3C), R357. -/
def execSrlH (s : State) : Result := rotateReg .srl .h s

/-- SRL L (CB 3D), R357. -/
def execSrlL (s : State) : Result := rotateReg .srl .l s

/-- SRL (HL) (CB 3E), R358. -/
def execSrlAtHL (s : State) : Result := rotateHL .srl s

/-- SRL A (CB 3F), R357. -/
def execSrlA (s : State) : Result := rotateReg .srl .a s

/-- BIT 0,B (CB 40), R359. -/
def execBit0B (s : State) : Result := testBitReg 0 .b s

/-- BIT 0,C (CB 41), R359. -/
def execBit0C (s : State) : Result := testBitReg 0 .c s

/-- BIT 0,D (CB 42), R359. -/
def execBit0D (s : State) : Result := testBitReg 0 .d s

/-- BIT 0,E (CB 43), R359. -/
def execBit0E (s : State) : Result := testBitReg 0 .e s

/-- BIT 0,H (CB 44), R359. -/
def execBit0H (s : State) : Result := testBitReg 0 .h s

/-- BIT 0,L (CB 45), R359. -/
def execBit0L (s : State) : Result := testBitReg 0 .l s

/-- BIT 0,(HL) (CB 46), R360. -/
def execBit0AtHL (s : State) : Result := testBitHL 0 s

/-- BIT 0,A (CB 47), R359. -/
def execBit0A (s : State) : Result := testBitReg 0 .a s

/-- BIT 1,B (CB 48), R359. -/
def execBit1B (s : State) : Result := testBitReg 1 .b s

/-- BIT 1,C (CB 49), R359. -/
def execBit1C (s : State) : Result := testBitReg 1 .c s

/-- BIT 1,D (CB 4A), R359. -/
def execBit1D (s : State) : Result := testBitReg 1 .d s

/-- BIT 1,E (CB 4B), R359. -/
def execBit1E (s : State) : Result := testBitReg 1 .e s

/-- BIT 1,H (CB 4C), R359. -/
def execBit1H (s : State) : Result := testBitReg 1 .h s

/-- BIT 1,L (CB 4D), R359. -/
def execBit1L (s : State) : Result := testBitReg 1 .l s

/-- BIT 1,(HL) (CB 4E), R360. -/
def execBit1AtHL (s : State) : Result := testBitHL 1 s

/-- BIT 1,A (CB 4F), R359. -/
def execBit1A (s : State) : Result := testBitReg 1 .a s

/-- BIT 2,B (CB 50), R359. -/
def execBit2B (s : State) : Result := testBitReg 2 .b s

/-- BIT 2,C (CB 51), R359. -/
def execBit2C (s : State) : Result := testBitReg 2 .c s

/-- BIT 2,D (CB 52), R359. -/
def execBit2D (s : State) : Result := testBitReg 2 .d s

/-- BIT 2,E (CB 53), R359. -/
def execBit2E (s : State) : Result := testBitReg 2 .e s

/-- BIT 2,H (CB 54), R359. -/
def execBit2H (s : State) : Result := testBitReg 2 .h s

/-- BIT 2,L (CB 55), R359. -/
def execBit2L (s : State) : Result := testBitReg 2 .l s

/-- BIT 2,(HL) (CB 56), R360. -/
def execBit2AtHL (s : State) : Result := testBitHL 2 s

/-- BIT 2,A (CB 57), R359. -/
def execBit2A (s : State) : Result := testBitReg 2 .a s

/-- BIT 3,B (CB 58), R359. -/
def execBit3B (s : State) : Result := testBitReg 3 .b s

/-- BIT 3,C (CB 59), R359. -/
def execBit3C (s : State) : Result := testBitReg 3 .c s

/-- BIT 3,D (CB 5A), R359. -/
def execBit3D (s : State) : Result := testBitReg 3 .d s

/-- BIT 3,E (CB 5B), R359. -/
def execBit3E (s : State) : Result := testBitReg 3 .e s

/-- BIT 3,H (CB 5C), R359. -/
def execBit3H (s : State) : Result := testBitReg 3 .h s

/-- BIT 3,L (CB 5D), R359. -/
def execBit3L (s : State) : Result := testBitReg 3 .l s

/-- BIT 3,(HL) (CB 5E), R360. -/
def execBit3AtHL (s : State) : Result := testBitHL 3 s

/-- BIT 3,A (CB 5F), R359. -/
def execBit3A (s : State) : Result := testBitReg 3 .a s

/-- BIT 4,B (CB 60), R359. -/
def execBit4B (s : State) : Result := testBitReg 4 .b s

/-- BIT 4,C (CB 61), R359. -/
def execBit4C (s : State) : Result := testBitReg 4 .c s

/-- BIT 4,D (CB 62), R359. -/
def execBit4D (s : State) : Result := testBitReg 4 .d s

/-- BIT 4,E (CB 63), R359. -/
def execBit4E (s : State) : Result := testBitReg 4 .e s

/-- BIT 4,H (CB 64), R359. -/
def execBit4H (s : State) : Result := testBitReg 4 .h s

/-- BIT 4,L (CB 65), R359. -/
def execBit4L (s : State) : Result := testBitReg 4 .l s

/-- BIT 4,(HL) (CB 66), R360. -/
def execBit4AtHL (s : State) : Result := testBitHL 4 s

/-- BIT 4,A (CB 67), R359. -/
def execBit4A (s : State) : Result := testBitReg 4 .a s

/-- BIT 5,B (CB 68), R359. -/
def execBit5B (s : State) : Result := testBitReg 5 .b s

/-- BIT 5,C (CB 69), R359. -/
def execBit5C (s : State) : Result := testBitReg 5 .c s

/-- BIT 5,D (CB 6A), R359. -/
def execBit5D (s : State) : Result := testBitReg 5 .d s

/-- BIT 5,E (CB 6B), R359. -/
def execBit5E (s : State) : Result := testBitReg 5 .e s

/-- BIT 5,H (CB 6C), R359. -/
def execBit5H (s : State) : Result := testBitReg 5 .h s

/-- BIT 5,L (CB 6D), R359. -/
def execBit5L (s : State) : Result := testBitReg 5 .l s

/-- BIT 5,(HL) (CB 6E), R360. -/
def execBit5AtHL (s : State) : Result := testBitHL 5 s

/-- BIT 5,A (CB 6F), R359. -/
def execBit5A (s : State) : Result := testBitReg 5 .a s

/-- BIT 6,B (CB 70), R359. -/
def execBit6B (s : State) : Result := testBitReg 6 .b s

/-- BIT 6,C (CB 71), R359. -/
def execBit6C (s : State) : Result := testBitReg 6 .c s

/-- BIT 6,D (CB 72), R359. -/
def execBit6D (s : State) : Result := testBitReg 6 .d s

/-- BIT 6,E (CB 73), R359. -/
def execBit6E (s : State) : Result := testBitReg 6 .e s

/-- BIT 6,H (CB 74), R359. -/
def execBit6H (s : State) : Result := testBitReg 6 .h s

/-- BIT 6,L (CB 75), R359. -/
def execBit6L (s : State) : Result := testBitReg 6 .l s

/-- BIT 6,(HL) (CB 76), R360. -/
def execBit6AtHL (s : State) : Result := testBitHL 6 s

/-- BIT 6,A (CB 77), R359. -/
def execBit6A (s : State) : Result := testBitReg 6 .a s

/-- BIT 7,B (CB 78), R359. -/
def execBit7B (s : State) : Result := testBitReg 7 .b s

/-- BIT 7,C (CB 79), R359. -/
def execBit7C (s : State) : Result := testBitReg 7 .c s

/-- BIT 7,D (CB 7A), R359. -/
def execBit7D (s : State) : Result := testBitReg 7 .d s

/-- BIT 7,E (CB 7B), R359. -/
def execBit7E (s : State) : Result := testBitReg 7 .e s

/-- BIT 7,H (CB 7C), R359. -/
def execBit7H (s : State) : Result := testBitReg 7 .h s

/-- BIT 7,L (CB 7D), R359. -/
def execBit7L (s : State) : Result := testBitReg 7 .l s

/-- BIT 7,(HL) (CB 7E), R360. -/
def execBit7AtHL (s : State) : Result := testBitHL 7 s

/-- BIT 7,A (CB 7F), R359. -/
def execBit7A (s : State) : Result := testBitReg 7 .a s

/-- RES 0,B (CB 80), R361. -/
def execRes0B (s : State) : Result := resetBitReg 0 .b s

/-- RES 0,C (CB 81), R361. -/
def execRes0C (s : State) : Result := resetBitReg 0 .c s

/-- RES 0,D (CB 82), R361. -/
def execRes0D (s : State) : Result := resetBitReg 0 .d s

/-- RES 0,E (CB 83), R361. -/
def execRes0E (s : State) : Result := resetBitReg 0 .e s

/-- RES 0,H (CB 84), R361. -/
def execRes0H (s : State) : Result := resetBitReg 0 .h s

/-- RES 0,L (CB 85), R361. -/
def execRes0L (s : State) : Result := resetBitReg 0 .l s

/-- RES 0,(HL) (CB 86), R362. -/
def execRes0AtHL (s : State) : Result := resetBitHL 0 s

/-- RES 0,A (CB 87), R361. -/
def execRes0A (s : State) : Result := resetBitReg 0 .a s

/-- RES 1,B (CB 88), R361. -/
def execRes1B (s : State) : Result := resetBitReg 1 .b s

/-- RES 1,C (CB 89), R361. -/
def execRes1C (s : State) : Result := resetBitReg 1 .c s

/-- RES 1,D (CB 8A), R361. -/
def execRes1D (s : State) : Result := resetBitReg 1 .d s

/-- RES 1,E (CB 8B), R361. -/
def execRes1E (s : State) : Result := resetBitReg 1 .e s

/-- RES 1,H (CB 8C), R361. -/
def execRes1H (s : State) : Result := resetBitReg 1 .h s

/-- RES 1,L (CB 8D), R361. -/
def execRes1L (s : State) : Result := resetBitReg 1 .l s

/-- RES 1,(HL) (CB 8E), R362. -/
def execRes1AtHL (s : State) : Result := resetBitHL 1 s

/-- RES 1,A (CB 8F), R361. -/
def execRes1A (s : State) : Result := resetBitReg 1 .a s

/-- RES 2,B (CB 90), R361. -/
def execRes2B (s : State) : Result := resetBitReg 2 .b s

/-- RES 2,C (CB 91), R361. -/
def execRes2C (s : State) : Result := resetBitReg 2 .c s

/-- RES 2,D (CB 92), R361. -/
def execRes2D (s : State) : Result := resetBitReg 2 .d s

/-- RES 2,E (CB 93), R361. -/
def execRes2E (s : State) : Result := resetBitReg 2 .e s

/-- RES 2,H (CB 94), R361. -/
def execRes2H (s : State) : Result := resetBitReg 2 .h s

/-- RES 2,L (CB 95), R361. -/
def execRes2L (s : State) : Result := resetBitReg 2 .l s

/-- RES 2,(HL) (CB 96), R362. -/
def execRes2AtHL (s : State) : Result := resetBitHL 2 s

/-- RES 2,A (CB 97), R361. -/
def execRes2A (s : State) : Result := resetBitReg 2 .a s

/-- RES 3,B (CB 98), R361. -/
def execRes3B (s : State) : Result := resetBitReg 3 .b s

/-- RES 3,C (CB 99), R361. -/
def execRes3C (s : State) : Result := resetBitReg 3 .c s

/-- RES 3,D (CB 9A), R361. -/
def execRes3D (s : State) : Result := resetBitReg 3 .d s

/-- RES 3,E (CB 9B), R361. -/
def execRes3E (s : State) : Result := resetBitReg 3 .e s

/-- RES 3,H (CB 9C), R361. -/
def execRes3H (s : State) : Result := resetBitReg 3 .h s

/-- RES 3,L (CB 9D), R361. -/
def execRes3L (s : State) : Result := resetBitReg 3 .l s

/-- RES 3,(HL) (CB 9E), R362. -/
def execRes3AtHL (s : State) : Result := resetBitHL 3 s

/-- RES 3,A (CB 9F), R361. -/
def execRes3A (s : State) : Result := resetBitReg 3 .a s

/-- RES 4,B (CB A0), R361. -/
def execRes4B (s : State) : Result := resetBitReg 4 .b s

/-- RES 4,C (CB A1), R361. -/
def execRes4C (s : State) : Result := resetBitReg 4 .c s

/-- RES 4,D (CB A2), R361. -/
def execRes4D (s : State) : Result := resetBitReg 4 .d s

/-- RES 4,E (CB A3), R361. -/
def execRes4E (s : State) : Result := resetBitReg 4 .e s

/-- RES 4,H (CB A4), R361. -/
def execRes4H (s : State) : Result := resetBitReg 4 .h s

/-- RES 4,L (CB A5), R361. -/
def execRes4L (s : State) : Result := resetBitReg 4 .l s

/-- RES 4,(HL) (CB A6), R362. -/
def execRes4AtHL (s : State) : Result := resetBitHL 4 s

/-- RES 4,A (CB A7), R361. -/
def execRes4A (s : State) : Result := resetBitReg 4 .a s

/-- RES 5,B (CB A8), R361. -/
def execRes5B (s : State) : Result := resetBitReg 5 .b s

/-- RES 5,C (CB A9), R361. -/
def execRes5C (s : State) : Result := resetBitReg 5 .c s

/-- RES 5,D (CB AA), R361. -/
def execRes5D (s : State) : Result := resetBitReg 5 .d s

/-- RES 5,E (CB AB), R361. -/
def execRes5E (s : State) : Result := resetBitReg 5 .e s

/-- RES 5,H (CB AC), R361. -/
def execRes5H (s : State) : Result := resetBitReg 5 .h s

/-- RES 5,L (CB AD), R361. -/
def execRes5L (s : State) : Result := resetBitReg 5 .l s

/-- RES 5,(HL) (CB AE), R362. -/
def execRes5AtHL (s : State) : Result := resetBitHL 5 s

/-- RES 5,A (CB AF), R361. -/
def execRes5A (s : State) : Result := resetBitReg 5 .a s

/-- RES 6,B (CB B0), R361. -/
def execRes6B (s : State) : Result := resetBitReg 6 .b s

/-- RES 6,C (CB B1), R361. -/
def execRes6C (s : State) : Result := resetBitReg 6 .c s

/-- RES 6,D (CB B2), R361. -/
def execRes6D (s : State) : Result := resetBitReg 6 .d s

/-- RES 6,E (CB B3), R361. -/
def execRes6E (s : State) : Result := resetBitReg 6 .e s

/-- RES 6,H (CB B4), R361. -/
def execRes6H (s : State) : Result := resetBitReg 6 .h s

/-- RES 6,L (CB B5), R361. -/
def execRes6L (s : State) : Result := resetBitReg 6 .l s

/-- RES 6,(HL) (CB B6), R362. -/
def execRes6AtHL (s : State) : Result := resetBitHL 6 s

/-- RES 6,A (CB B7), R361. -/
def execRes6A (s : State) : Result := resetBitReg 6 .a s

/-- RES 7,B (CB B8), R361. -/
def execRes7B (s : State) : Result := resetBitReg 7 .b s

/-- RES 7,C (CB B9), R361. -/
def execRes7C (s : State) : Result := resetBitReg 7 .c s

/-- RES 7,D (CB BA), R361. -/
def execRes7D (s : State) : Result := resetBitReg 7 .d s

/-- RES 7,E (CB BB), R361. -/
def execRes7E (s : State) : Result := resetBitReg 7 .e s

/-- RES 7,H (CB BC), R361. -/
def execRes7H (s : State) : Result := resetBitReg 7 .h s

/-- RES 7,L (CB BD), R361. -/
def execRes7L (s : State) : Result := resetBitReg 7 .l s

/-- RES 7,(HL) (CB BE), R362. -/
def execRes7AtHL (s : State) : Result := resetBitHL 7 s

/-- RES 7,A (CB BF), R361. -/
def execRes7A (s : State) : Result := resetBitReg 7 .a s

/-- SET 0,B (CB C0), R363. -/
def execSet0B (s : State) : Result := setBitReg 0 .b s

/-- SET 0,C (CB C1), R363. -/
def execSet0C (s : State) : Result := setBitReg 0 .c s

/-- SET 0,D (CB C2), R363. -/
def execSet0D (s : State) : Result := setBitReg 0 .d s

/-- SET 0,E (CB C3), R363. -/
def execSet0E (s : State) : Result := setBitReg 0 .e s

/-- SET 0,H (CB C4), R363. -/
def execSet0H (s : State) : Result := setBitReg 0 .h s

/-- SET 0,L (CB C5), R363. -/
def execSet0L (s : State) : Result := setBitReg 0 .l s

/-- SET 0,(HL) (CB C6), R364. -/
def execSet0AtHL (s : State) : Result := setBitHL 0 s

/-- SET 0,A (CB C7), R363. -/
def execSet0A (s : State) : Result := setBitReg 0 .a s

/-- SET 1,B (CB C8), R363. -/
def execSet1B (s : State) : Result := setBitReg 1 .b s

/-- SET 1,C (CB C9), R363. -/
def execSet1C (s : State) : Result := setBitReg 1 .c s

/-- SET 1,D (CB CA), R363. -/
def execSet1D (s : State) : Result := setBitReg 1 .d s

/-- SET 1,E (CB CB), R363. -/
def execSet1E (s : State) : Result := setBitReg 1 .e s

/-- SET 1,H (CB CC), R363. -/
def execSet1H (s : State) : Result := setBitReg 1 .h s

/-- SET 1,L (CB CD), R363. -/
def execSet1L (s : State) : Result := setBitReg 1 .l s

/-- SET 1,(HL) (CB CE), R364. -/
def execSet1AtHL (s : State) : Result := setBitHL 1 s

/-- SET 1,A (CB CF), R363. -/
def execSet1A (s : State) : Result := setBitReg 1 .a s

/-- SET 2,B (CB D0), R363. -/
def execSet2B (s : State) : Result := setBitReg 2 .b s

/-- SET 2,C (CB D1), R363. -/
def execSet2C (s : State) : Result := setBitReg 2 .c s

/-- SET 2,D (CB D2), R363. -/
def execSet2D (s : State) : Result := setBitReg 2 .d s

/-- SET 2,E (CB D3), R363. -/
def execSet2E (s : State) : Result := setBitReg 2 .e s

/-- SET 2,H (CB D4), R363. -/
def execSet2H (s : State) : Result := setBitReg 2 .h s

/-- SET 2,L (CB D5), R363. -/
def execSet2L (s : State) : Result := setBitReg 2 .l s

/-- SET 2,(HL) (CB D6), R364. -/
def execSet2AtHL (s : State) : Result := setBitHL 2 s

/-- SET 2,A (CB D7), R363. -/
def execSet2A (s : State) : Result := setBitReg 2 .a s

/-- SET 3,B (CB D8), R363. -/
def execSet3B (s : State) : Result := setBitReg 3 .b s

/-- SET 3,C (CB D9), R363. -/
def execSet3C (s : State) : Result := setBitReg 3 .c s

/-- SET 3,D (CB DA), R363. -/
def execSet3D (s : State) : Result := setBitReg 3 .d s

/-- SET 3,E (CB DB), R363. -/
def execSet3E (s : State) : Result := setBitReg 3 .e s

/-- SET 3,H (CB DC), R363. -/
def execSet3H (s : State) : Result := setBitReg 3 .h s

/-- SET 3,L (CB DD), R363. -/
def execSet3L (s : State) : Result := setBitReg 3 .l s

/-- SET 3,(HL) (CB DE), R364. -/
def execSet3AtHL (s : State) : Result := setBitHL 3 s

/-- SET 3,A (CB DF), R363. -/
def execSet3A (s : State) : Result := setBitReg 3 .a s

/-- SET 4,B (CB E0), R363. -/
def execSet4B (s : State) : Result := setBitReg 4 .b s

/-- SET 4,C (CB E1), R363. -/
def execSet4C (s : State) : Result := setBitReg 4 .c s

/-- SET 4,D (CB E2), R363. -/
def execSet4D (s : State) : Result := setBitReg 4 .d s

/-- SET 4,E (CB E3), R363. -/
def execSet4E (s : State) : Result := setBitReg 4 .e s

/-- SET 4,H (CB E4), R363. -/
def execSet4H (s : State) : Result := setBitReg 4 .h s

/-- SET 4,L (CB E5), R363. -/
def execSet4L (s : State) : Result := setBitReg 4 .l s

/-- SET 4,(HL) (CB E6), R364. -/
def execSet4AtHL (s : State) : Result := setBitHL 4 s

/-- SET 4,A (CB E7), R363. -/
def execSet4A (s : State) : Result := setBitReg 4 .a s

/-- SET 5,B (CB E8), R363. -/
def execSet5B (s : State) : Result := setBitReg 5 .b s

/-- SET 5,C (CB E9), R363. -/
def execSet5C (s : State) : Result := setBitReg 5 .c s

/-- SET 5,D (CB EA), R363. -/
def execSet5D (s : State) : Result := setBitReg 5 .d s

/-- SET 5,E (CB EB), R363. -/
def execSet5E (s : State) : Result := setBitReg 5 .e s

/-- SET 5,H (CB EC), R363. -/
def execSet5H (s : State) : Result := setBitReg 5 .h s

/-- SET 5,L (CB ED), R363. -/
def execSet5L (s : State) : Result := setBitReg 5 .l s

/-- SET 5,(HL) (CB EE), R364. -/
def execSet5AtHL (s : State) : Result := setBitHL 5 s

/-- SET 5,A (CB EF), R363. -/
def execSet5A (s : State) : Result := setBitReg 5 .a s

/-- SET 6,B (CB F0), R363. -/
def execSet6B (s : State) : Result := setBitReg 6 .b s

/-- SET 6,C (CB F1), R363. -/
def execSet6C (s : State) : Result := setBitReg 6 .c s

/-- SET 6,D (CB F2), R363. -/
def execSet6D (s : State) : Result := setBitReg 6 .d s

/-- SET 6,E (CB F3), R363. -/
def execSet6E (s : State) : Result := setBitReg 6 .e s

/-- SET 6,H (CB F4), R363. -/
def execSet6H (s : State) : Result := setBitReg 6 .h s

/-- SET 6,L (CB F5), R363. -/
def execSet6L (s : State) : Result := setBitReg 6 .l s

/-- SET 6,(HL) (CB F6), R364. -/
def execSet6AtHL (s : State) : Result := setBitHL 6 s

/-- SET 6,A (CB F7), R363. -/
def execSet6A (s : State) : Result := setBitReg 6 .a s

/-- SET 7,B (CB F8), R363. -/
def execSet7B (s : State) : Result := setBitReg 7 .b s

/-- SET 7,C (CB F9), R363. -/
def execSet7C (s : State) : Result := setBitReg 7 .c s

/-- SET 7,D (CB FA), R363. -/
def execSet7D (s : State) : Result := setBitReg 7 .d s

/-- SET 7,E (CB FB), R363. -/
def execSet7E (s : State) : Result := setBitReg 7 .e s

/-- SET 7,H (CB FC), R363. -/
def execSet7H (s : State) : Result := setBitReg 7 .h s

/-- SET 7,L (CB FD), R363. -/
def execSet7L (s : State) : Result := setBitReg 7 .l s

/-- SET 7,(HL) (CB FE), R364. -/
def execSet7AtHL (s : State) : Result := setBitHL 7 s

/-- SET 7,A (CB FF), R363. -/
def execSet7A (s : State) : Result := setBitReg 7 .a s

end Sys2Proof.Machine
end

