-- ==== Sys2Proof/WellFormed.lean ====
section
/-! DEFINITION. Which terms of `Instr` are instructions of the machine. Every immediate has its exact width in its type, so
one check is left: the 0xCB prefix is no instruction by itself (45_system.md R425: "the prefix and op2 are one
instruction"), and its two bytes are the prefixed instruction they spell. -/

namespace Sys2Proof

/-- The term is a whole instruction: every one but the bare prefix, whose two bytes are another constructor's. -/
def Instr.wellFormed (i : Instr) : Bool :=
  match i with
  | .prefixCB _ => false
  | _ => true

end Sys2Proof
end

