-- ==== Sys2Proof/Machine/System.lean ====
section
/-! DEFINITION. The meanings of the system instructions, the 0xCB prefix and the illegal opcodes, 45_system.md R420 to
R426. -/

namespace Sys2Proof.Machine

/-- HALT's effect, 45_system.md R421: the core halts, unless the HALT bug applies. -/
def haltCore (s : State) : State :=
  if s.launch.haltBug && !s.ime && decide (s.pending ≠ 0#5) then { s with haltBugLatch := true }
  else { s with halted := true }

/-- STOP, 45_system.md R422: a primed speed switch toggles the speed; otherwise the spec has no effect for it but the
fault. The second byte was fetched and is ignored. -/
def switchSpeed (s : State) : Result :=
  if s.launch.colorMode && s.speedArmed then
    .next ({ s with doubleSpeed := !s.doubleSpeed, speedArmed := false }.spend 4)
  else .fault (raiseFault (.unmodelledStop s.opAddr) s)

/-- An illegal opcode, 45_system.md R426: `IllegalOpcode(op, addr)`; pc is already past it. -/
def illegalOpcode (op : Byte) (s : State) : Result := .fault (raiseFault (.illegalOpcode op s.opAddr) s)

/-- The prefixed instruction `op2`, 45_system.md R425, from the fields of 30_encoding.md R157. -/
def prefixed (op2 : Byte) (s : State) : Result :=
  match fieldX op2, Reg8.ofField (fieldZ op2) with
  | 0, some r => rotateReg (RotOp.ofField (fieldY op2)) r s
  | 0, none => rotateHL (RotOp.ofField (fieldY op2)) s
  | 1, some r => testBitReg (fieldY op2) r s
  | 1, none => testBitHL (fieldY op2) s
  | 2, some r => resetBitReg (fieldY op2) r s
  | 2, none => resetBitHL (fieldY op2) s
  | 3, some r => setBitReg (fieldY op2) r s
  | 3, none => setBitHL (fieldY op2) s

/-- NOP (00), R420. -/
def execNop (s : State) : Result := .next (s.spend 4)

/-- STOP (10), R422; `x` is the ignored second byte. -/
def execStop (_x : Byte) (s : State) : Result := switchSpeed s

/-- HALT (76), R421. -/
def execHalt (s : State) : Result := .next ((haltCore s).spend 4)

/-- PREFIX CB (CB), R425; `op2` is the second byte. -/
def execPrefixCB (op2 : Byte) (s : State) : Result := prefixed op2 s

/-- (illegal D3) (D3), R426. -/
def execIllegalD3 (s : State) : Result := illegalOpcode 0xD3#8 s

/-- (illegal DB) (DB), R426. -/
def execIllegalDB (s : State) : Result := illegalOpcode 0xDB#8 s

/-- (illegal DD) (DD), R426. -/
def execIllegalDD (s : State) : Result := illegalOpcode 0xDD#8 s

/-- (illegal E3) (E3), R426. -/
def execIllegalE3 (s : State) : Result := illegalOpcode 0xE3#8 s

/-- (illegal E4) (E4), R426. -/
def execIllegalE4 (s : State) : Result := illegalOpcode 0xE4#8 s

/-- (illegal EB) (EB), R426. -/
def execIllegalEB (s : State) : Result := illegalOpcode 0xEB#8 s

/-- (illegal EC) (EC), R426. -/
def execIllegalEC (s : State) : Result := illegalOpcode 0xEC#8 s

/-- (illegal ED) (ED), R426. -/
def execIllegalED (s : State) : Result := illegalOpcode 0xED#8 s

/-- DI (F3), R423. -/
def execDi (s : State) : Result :=
  .next ({ s with ime := false, imePending := false }.spend 4)

/-- (illegal F4) (F4), R426. -/
def execIllegalF4 (s : State) : Result := illegalOpcode 0xF4#8 s

/-- EI (FB), R424. -/
def execEi (s : State) : Result := .next ({ s with imePending := true }.spend 4)

/-- (illegal FC) (FC), R426. -/
def execIllegalFC (s : State) : Result := illegalOpcode 0xFC#8 s

/-- (illegal FD) (FD), R426. -/
def execIllegalFD (s : State) : Result := illegalOpcode 0xFD#8 s

end Sys2Proof.Machine
end

