-- ==== Sys2Proof/Machine/Fetch.lean ====
section
/-! DEFINITION. Fetching an instruction: its bytes one by one from consecutive addresses (30_encoding.md R170), as many as
its first byte says (R168), through `Fetch8` (00_scope.md R12). -/

namespace Sys2Proof.Machine

/-- The operand bytes of an instruction of length `len`, 0x00 for those it does not have. -/
def fetchOperands (len : Nat) (s : State) : Access (Byte × Byte) :=
  if len ≤ 1 then .ok (0, 0) s
  else
    match fetch8 s with
    | .fault f => .fault f
    | .ok b1 t =>
      if len = 2 then .ok (b1, 0) t
      else
        match fetch8 t with
        | .fault f => .fault f
        | .ok b2 u => .ok (b1, b2) u

/-- The instruction at pc, fetched and decoded; `opAddr` keeps the address of its first byte (60_exceptions.md R452). -/
def fetchInstr (s : State) : Access Instr :=
  match fetch8 { s with opAddr := s.pc } with
  | .fault f => .fault f
  | .ok op t =>
    match fetchOperands (instrLength op) t with
    | .fault f => .fault f
    | .ok (b1, b2) u => .ok (decodeBytes op b1 b2) u

end Sys2Proof.Machine
end

