-- ==== Sys2Proof/Machine/Phases.lean ====
section
/-! DEFINITION. The phases of a step, 60_exceptions.md R452, and the placing of code bytes in storage. Phase 0 and phase 2
are in Machine/Ops.lean, phases 3 and 4 in Machine/Devices.lean. -/

namespace Sys2Proof.Machine

/-- Phase 1, 60_exceptions.md R452 and R454: a halted core idles; otherwise one instruction is fetched and executed. -/
def executePhase (s : State) : Result :=
  if s.halted then .next (s.spend Config.haltStepCycles) else withValue (fetchInstr s) exec

/-- Phases 2 to 4: the interrupt check, the devices, the accounting. `speed0` is the speed the step began with. -/
def settleStep (speed0 : Bool) (s : State) : Result :=
  andThen (checkInterrupts s) fun t => andThen (devicePhase speed0 t) fun u => .next (accountFrame u)

/-- The whole step of a core that has no fault. -/
def runStep (s : State) : Result := andThen (executePhase (beginStep s)) (settleStep s.doubleSpeed)

/-- A byte put straight into the storage an address reaches; an address without storage keeps what it has. It stands for
the load of a program from outside the machine (log 10): no instruction does it, and a write to ROM does not (20_memory.md
R83). -/
def State.placeByte (s : State) (addr : Word) (v : Byte) : State :=
  match locate s addr with
  | .rom key => s.setCell key v
  | .ram key => s.setCell key v
  | .nibble key => s.setCell key (0#4 ++ v.extractLsb' 0 4)
  | .rtc _ | .noRam | .hole | .io _ | .soundUnused _ | .ie | .undefined => s

/-- Bytes placed from `addr` on. -/
def State.placeBytes (s : State) (addr : Word) (bytes : List Byte) : State :=
  match bytes with
  | [] => s
  | v :: rest => (s.placeByte addr v).placeBytes (addr + 1) rest

end Sys2Proof.Machine
end

