-- ==== Sys2Proof/Machine/Step.lean ====
section
/-! DEFINITION. One step of the machine, 60_exceptions.md R452, and the placing of an instruction where the next step
fetches it. -/

namespace Sys2Proof.Machine

/-- `Step()`, 60_exceptions.md R452. A faulted core takes no step: it answers its fault again, with its state as it is
(R473, log 8). -/
def step (s : State) : Host.Outcome State Fault Refusal :=
  match s.fault with
  | some r => .fault (raiseFault r s)
  | none => runStep s

/-- The state with the instruction `w`, numbered as spec/opcode_table.json numbers it, stored at pc, and with what would
keep the next step from fetching it cleared: a fault, a halt, the HALT bug's latch. It stands for a program loaded from
outside the machine (log 10). -/
def State.withFetchWord (s : State) (nbits w : Nat) : State :=
  { s with fault := none, halted := false, haltBugLatch := false }.placeBytes s.pc (tableBytes nbits w)

end Sys2Proof.Machine
end

