-- ==== Sys2Proof/Machine/Loader.lean ====
section
/-! DEFINITION. The loader: the cartridge header (20_memory.md R106, R114) and the launch of a machine from its launch
inputs (00_scope.md R8, 70_reset_and_hazards.md R600 to R605). -/

namespace Sys2Proof.Machine

/-! ### The header, 20_memory.md R106 and R114 -/

/-- The fields of the cartridge header, 20_memory.md R106. The core uses neither the region flag nor the checksums. -/
structure Header where
  title     : List Byte
  colorFlag : Byte
  kind      : Byte
  romSize   : Byte
  ramSize   : Byte
  region    : Byte
  checksums : List Byte
deriving DecidableEq, Repr

/-- The header at its fixed offsets into the image, 20_memory.md R106: `image off` is the byte at an offset. -/
def readHeader (image : Nat → Byte) : Header :=
  { title := (List.range 16).map fun i => image (0x134 + i), colorFlag := image 0x146, kind := image 0x147,
    romSize := image 0x148, ramSize := image 0x149, region := image 0x14B,
    checksums := [image 0x14D, image 0x14E, image 0x14F] }

/-- The five bank-controller variants. -/
inductive Controller where
  | romOnly | mbc1 | mbc2 | mbc3 | mbc5
deriving DecidableEq, Repr

/-- What a controller-type byte names. -/
structure CartType where
  controller : Controller
  timer      : Bool
  ram        : Bool
  battery    : Bool
  rumble     : Bool
deriving DecidableEq, Repr

/-- A type with none of the extras. -/
def plainCart (c : Controller) : CartType :=
  { controller := c, timer := false, ram := false, battery := false, rumble := false }

/-- A type with RAM and perhaps a battery. -/
def ramCart (c : Controller) (battery : Bool) : CartType := { plainCart c with ram := true, battery := battery }

/-- The rows of 20_memory.md R114 up to 0x0F. -/
def cartTypesLow : List (Byte × CartType) :=
  [(0x00, plainCart .romOnly), (0x01, plainCart .mbc1), (0x02, ramCart .mbc1 false), (0x03, ramCart .mbc1 true),
   (0x05, plainCart .mbc2), (0x06, { plainCart .mbc2 with battery := true }),
   (0x08, ramCart .romOnly false), (0x09, ramCart .romOnly true),
   (0x0F, { plainCart .mbc3 with timer := true, battery := true })]

/-- The rows of 20_memory.md R114 from 0x10 on. -/
def cartTypesHigh : List (Byte × CartType) :=
  [(0x10, { ramCart .mbc3 true with timer := true }), (0x11, plainCart .mbc3), (0x12, ramCart .mbc3 false),
   (0x13, ramCart .mbc3 true), (0x19, plainCart .mbc5), (0x1A, ramCart .mbc5 false), (0x1B, ramCart .mbc5 true),
   (0x1C, { plainCart .mbc5 with rumble := true }), (0x1D, { ramCart .mbc5 false with rumble := true }),
   (0x1E, { ramCart .mbc5 true with rumble := true })]

/-- The controller-type byte at 0x147, 20_memory.md R114; any other byte is unsupported. -/
def cartType (byte : Byte) : Option CartType :=
  ((cartTypesLow ++ cartTypesHigh).find? fun row => row.1 == byte).map fun row => row.2

/-- The RAM-size byte at 0x149, 20_memory.md R106; a byte above 3 is refused. -/
def ramBytes (byte : Byte) : Option Nat :=
  match byte.toNat with
  | 0 => some 0
  | 1 => some 0x800
  | 2 => some 0x2000
  | 3 => some 0x8000
  | _ => none

/-- The ROM size in bytes, `0x8000 << value`, 20_memory.md R106. -/
def romBytes (byte : Byte) : Nat := 0x8000 <<< byte.toNat

/-- The bank controller at reset, 20_memory.md R107; what it leaves open is 0 (log 19). -/
def Controller.initial (c : Controller) : Mapper :=
  match c with
  | .romOnly => .romOnly
  | .mbc1 => .mbc1 0 0 false false
  | .mbc2 => .mbc2 1 false
  | .mbc3 => .mbc3 1 0 false { seconds := 0, minutes := 0, hours := 0, dayLow := 0, dayHigh := 0 }
  | .mbc5 => .mbc5 1 0 false

/-- The cartridge of a header, or the byte it is refused for, 20_memory.md R106, R107, R114. The number of banks is
`romSize / 0x4000` (log 33); the controller type is looked at first (log 31). -/
def Header.cart (h : Header) : Except Byte Cart :=
  match cartType h.kind with
  | none => .error h.kind
  | some t =>
    match ramBytes h.ramSize with
    | none => .error h.ramSize
    | some bytes => .ok { mapper := t.controller.initial, romBanks := romBytes h.romSize / 0x4000, ramBytes := bytes }

/-- `colorMode` by the header's colour-support flag, 20_memory.md R115. Which values of the flag mean colour the spec does
not say: they are the list `values`, a launch input. DESIGN CHOICE (log 32), safe. -/
def Header.colorMode (h : Header) (values : List Byte) : Bool := values.contains h.colorFlag

/-! ### Launch, 70_reset_and_hazards.md R605 -/

/-- The launch inputs of 00_scope.md R8, and the values R602 and R603 of 70_reset_and_hazards.md draw. Bytes are lists of
(offset, byte); of two cells for one offset the later counts. -/
structure LaunchInput where
  /-- the ROM image of `cartridge` -/
  image       : List Host.Cell
  /-- the external RAM of `cartridge`, at most 128 KB -/
  extRam      : List Host.Cell
  /-- `ramInit`, by the keys of Machine/Memory.lean: WRAM, HRAM, VRAM, OAM, palette RAM, MBC2 cells, wave RAM -/
  ramInit     : List Host.Cell
  /-- the values of the header's colour-support flag that mean colour (log 32) -/
  colorValues : List Byte
  haltBug              : Bool
  statLycInterrupt     : Bool
  hwAccessRestrictions : Bool
  exitAddr             : Word
  /-- `colorBootRegs`, but for F -/
  colorRegs   : Regs
  /-- the flag bits of `colorBootRegs.F`; its bits 3:0 are 0 -/
  colorFlags  : Flags
  ieReset     : BitVec 5
  ifReset     : BitVec 5
  obp0        : Byte
  obp1        : Byte
  /-- the APU at reset, but for NR52's power bit, which is 1 -/
  apu         : Apu
  /-- `joypadInput`: the samples of the coming steps (log 7) -/
  joypadInput : List Buttons
deriving DecidableEq, Repr

/-- Cells stored one after another from key `base` on. -/
def loadCells (base : Nat) (cells : List Host.Cell) (mem : List Host.Cell) : List Host.Cell :=
  cells.foldl (fun m cell => Memory.write m (base + cell.1) cell.2) mem

/-- The byte a list of cells gives an offset; one it does not list reads as `Memory.unlisted` (log 3). -/
def listedByte (cells : List Host.Cell) (off : Nat) : Byte := Memory.read (loadCells 0 cells []) off

/-- The byte of the image at an offset. -/
def LaunchInput.imageByte (x : LaunchInput) (off : Nat) : Byte := listedByte x.image off

/-- The header of the image. -/
def LaunchInput.header (x : LaunchInput) : Header := readHeader x.imageByte

/-- The loader's choice of `colorMode`, 20_memory.md R115, 70_reset_and_hazards.md R605 step 2. -/
def LaunchInput.colorMode (x : LaunchInput) : Bool := x.header.colorMode x.colorValues

/-- The launch parameters no step changes, 10_state.md R50. -/
def LaunchInput.launch (x : LaunchInput) : Launch :=
  { colorMode := x.colorMode, haltBug := x.haltBug, statLycInterrupt := x.statLycInterrupt,
    hwAccessRestrictions := x.hwAccessRestrictions, exitAddr := x.exitAddr }

/-- The key of a byte of memory that is a draw at reset: WRAM, OAM, wave RAM, HRAM, VRAM, palette RAM
(70_reset_and_hazards.md R602, R603). -/
def drawnKey (key : Nat) : Bool :=
  decide ((0xC000 ≤ key ∧ key < 0xE000) ∨ (0xFE00 ≤ key ∧ key < 0xFEA0) ∨ (0xFF30 ≤ key ∧ key < 0xFF40) ∨
    (0xFF80 ≤ key ∧ key < 0xFFFF) ∨ (Key.vram false 0 ≤ key ∧ key < Key.vram true 0x2000) ∨
    (Key.bgPal 0 ≤ key ∧ key < Key.objPal 64))

/-- The key of an MBC2 cell, also a draw at reset (70_reset_and_hazards.md R602). -/
def drawnNibble (key : Nat) : Bool := decide (Key.mbc2 0 ≤ key ∧ key < Key.mbc2 512)

/-- A cell of `ramInit`: an MBC2 cell keeps four bits; a key that is no RAM counts for nothing. -/
def initialCell (cell : Host.Cell) : Option Host.Cell :=
  if drawnNibble cell.1 then some (cell.1, 0#4 ++ cell.2.extractLsb' 0 4)
  else if drawnKey cell.1 then some cell else none

/-- The storage at launch, 70_reset_and_hazards.md R602: the RAM's contents, the external RAM's and the image's. -/
def launchMemory (x : LaunchInput) : List Host.Cell :=
  loadCells (Key.rom 0) x.image
    (loadCells (Key.extRam 0) (x.extRam.filter fun cell => decide (cell.1 < 0x20000))
      (loadCells 0 (x.ramInit.filterMap initialCell) []))

/-- The machine the loader starts with a cartridge that the header accepts, 70_reset_and_hazards.md R600 to R603. -/
def launchWith (x : LaunchInput) (cart : Cart) : State :=
  { State.reset with
    regs := if x.colorMode then x.colorRegs else resetRegs
    flags := if x.colorMode then x.colorFlags else resetFlags
    ie := x.ieReset, iflag := x.ifReset, launch := x.launch, cart := cart, mem := launchMemory x
    ppu := { resetPpu with obp0 := x.obp0, obp1 := x.obp1 }
    apu := { x.apu with nr52 := x.apu.nr52 ||| 0x80#8 }
    pad := { State.reset.pad with inputs := x.joypadInput } }

/-- The reset sequence of 70_reset_and_hazards.md R605: the loader reads the header and chooses the bank controller and
`colorMode`; a refused header sets `fault`, and no step runs. -/
def launchState (x : LaunchInput) : State :=
  match x.header.cart with
  | .ok cart => launchWith x cart
  | .error byte => { launchWith x State.reset.cart with fault := some (.cartridgeConfig byte) }

/-- No cartridge image, no external RAM, and the values of `State.reset` for whatever is open (logs 1 to 4, 7). -/
def emptyLaunch : LaunchInput :=
  { image := [], extRam := [], ramInit := [], colorValues := [], haltBug := false, statLycInterrupt := false,
    hwAccessRestrictions := false, exitAddr := 0, colorRegs := resetRegs, colorFlags := resetFlags,
    ieReset := 0, ifReset := 0, obp0 := 0, obp1 := 0, apu := resetApu, joypadInput := [] }

end Sys2Proof.Machine
end

