-- ==== Sys2Proof/Safety.lean ====
section
/-! DEFINITION. What counts as a sound state and a run that ends well, in the terms claims use. -/

namespace Sys2Proof.Machine

/-- A run ends successfully at this boundary, 60_exceptions.md R591. -/
def State.runEnded (s : State) : Bool :=
  decide (s.pc = s.launch.exitAddr) && s.fault.isNone && !s.halted && s.dma.oam.isNone && s.dma.vram.isNone

/-- The PPU's counters and mode: 154 lines of 456 dots (60_exceptions.md R500), a PixelTransfer of 168 to 291 dots (R505),
the mode the line and dot give (R504), and line 0, dot 0, HBlank with the LCD off (R518). -/
def Ppu.sound (p : Ppu) : Prop :=
  p.ly.toNat < 154 ∧ p.dot < 456 ∧ 168 ≤ p.xfer ∧ p.xfer ≤ 291 ∧
    (if p.lcdOn then p.mode = modeAt p.ly.toNat p.dot p.xfer else p.ly = 0#8 ∧ p.dot = 0 ∧ p.mode = .hblank)

/-- A running OAM transfer has a byte left and a page below 0xE0 (60_exceptions.md R490, R491). -/
def Dma.oamSound (g : Dma) : Prop :=
  g.dmaReg.toNat < 0xE0 ∧ ∀ x, g.oam = some x → x.index < 160 ∧ x.page.toNat < 0xE0

/-- A running VRAM transfer has bytes left, at most 2048, a destination in VRAM or just past it, and a line count of at
most 16 (60_exceptions.md R493, R495, R497). -/
def Dma.vramSound (g : Dma) : Prop :=
  ∀ x, g.vram = some x →
    0 < x.remaining.toNat ∧ x.remaining.toNat ≤ 0x800 ∧ 0x8000 ≤ x.dst.toNat ∧ x.dst.toNat ≤ 0xA000 ∧ x.lineCount ≤ 16

/-- On the monochrome console the colour-only state stays as reset leaves it (10_state.md R43, R44; 60_exceptions.md
R472). -/
def State.monoSound (s : State) : Prop :=
  s.launch.colorMode = false →
    s.doubleSpeed = false ∧ s.speedArmed = false ∧ s.ppu.vbk = false ∧ s.dma.vram = none

/-- Without the HALT bug the latch stays 0, 10_state.md R48. -/
def State.latchSound (s : State) : Prop := s.launch.haltBug = false → s.haltBugLatch = false

/-- The remapped bank registers never hold 0, 20_memory.md R110 and R111. -/
def Mapper.sound (m : Mapper) : Prop :=
  match m with
  | .mbc2 bank _ => bank ≠ 0#4
  | .mbc3 bank _ _ _ => bank ≠ 0#5
  | _ => True

/-- The invariant of the storage, the devices and the mode bits. -/
def State.sound (s : State) : Prop :=
  Memory.wf s.mem = true ∧ s.ppu.sound ∧ s.dma.oamSound ∧ s.dma.vramSound ∧ s.monoSound ∧ s.latchSound ∧
    s.cart.mapper.sound

/-! ### Frames: what stays -/

/-- The place is an I/O register. -/
def Loc.isIo (l : Loc) : Bool :=
  match l with
  | .io _ => true
  | _ => false

/-- From `s` to `t` nothing but registers, flags, pc, sp and the model's two counters changed; of the registers only the
listed ones; every byte reads as before, whatever stands for the open bits. -/
def State.coreFrame (s t : State) (changed : List Reg8) : Prop :=
  (∀ q, q ∉ changed → t.reg q = s.reg q) ∧ (∀ d b, peek d b t = peek d b s) ∧
    t = { s with regs := t.regs, flags := t.flags, pc := t.pc, sp := t.sp, cyc := t.cyc, draws := t.draws }

/-- From `s` to `t` at most the byte at `addr` was stored to. Which place an address reaches stays, unless the store
selects banks; an address that reaches another place than `addr` reads as before, unless both are I/O registers (a store to
one may change what another shows). -/
def State.storeFrame (s t : State) (addr : Word) : Prop :=
  (locate s addr ≠ .io .vbk → (∀ key, locate s addr ≠ .rom key) → ∀ b, locate t b = locate s b) ∧
    ∀ d b, locate t b = locate s b → locate s b ≠ locate s addr →
      ((locate s addr).isIo && (locate s b).isIo) = false → peek d b t = peek d b s

/-! ### Shapes of an instruction's effect -/

/-- The instruction completes from `s` in a state that has `post`, with these flags, pc, sp, cycles and number of memory
reads; beyond that only the listed registers change. -/
def Completes (i : Instr) (s : State) (changed : List Reg8) (flags : Flags) (pc sp : Word) (cycles reads : Nat)
    (post : State → Prop) : Prop :=
  ∃ t, exec i s = .next t ∧ post t ∧ t.flags = flags ∧ t.pc = pc ∧ t.sp = sp ∧ t.cyc = cycles ∧
    t.draws = s.draws + reads ∧ s.coreFrame t changed

/-- The instruction reads the byte at `addr`: it faults as the read does, and otherwise `post` holds of the byte read. -/
def ReadsByte (i : Instr) (s : State) (addr : Word) (post : Byte → Prop) : Prop :=
  (∀ r, readFault addr s = some r → exec i s = .fault (raiseFault r s)) ∧
    (readFault addr s = none → post (readByte addr s))

/-- The instruction stores `v` at `addr`: it faults as the write does, and otherwise completes with the write made, the
registers `regs` and nothing else changed. -/
def StoresByte (i : Instr) (s : State) (addr : Word) (v : Byte) (regs : Regs) (cycles : Nat) : Prop :=
  (∀ r, writeFault addr v s = some r → exec i s = .fault (raiseFault r s)) ∧
    (writeFault addr v s = none →
      ∃ t, exec i s = .next t ∧ t = { writeByte addr v s with regs := regs, cyc := cycles } ∧ s.storeFrame t addr)

/-- The instruction replaces the byte at HL: it reads it, stores `f` of it, and leaves the flags `g` of it; it faults as the
read or the write does, and nothing else changes. -/
def ModifiesByteAtHL (i : Instr) (s : State) (f : Byte → Byte) (g : Byte → Flags) (cycles : Nat) : Prop :=
  ReadsByte i s s.hl fun v =>
    (∀ r, writeFault s.hl (f v) s = some r → exec i s = .fault (raiseFault r s.countRead)) ∧
      (writeFault s.hl (f v) s = none →
        ∃ t, exec i s = .next t ∧ t = { writeByte s.hl (f v) s.countRead with flags := g v, cyc := cycles } ∧
          s.storeFrame t s.hl)

/-- The instruction pushes `hi` and then `lo` and goes on at `pc`: `hi` at sp-1, `lo` at sp-2, sp two lower; it faults as the
first or the second write does, with what was done before. -/
def PushesThen (i : Instr) (s : State) (hi lo : Byte) (pc : Word) (cycles : Nat) : Prop :=
  let s1 := { s with sp := s.sp - 1 }
  let u := writeByte (s.sp - 1) hi s1
  let s2 := { u with sp := s.sp - 2 }
  (∀ r, writeFault (s.sp - 1) hi s1 = some r → exec i s = .fault (raiseFault r s1)) ∧
    (writeFault (s.sp - 1) hi s1 = none →
      (∀ r, writeFault (s.sp - 2) lo s2 = some r → exec i s = .fault (raiseFault r s2)) ∧
        (writeFault (s.sp - 2) lo s2 = none →
          ∃ t, exec i s = .next t ∧ t = { writeByte (s.sp - 2) lo s2 with pc := pc, cyc := cycles } ∧
            s.storeFrame u (s.sp - 1) ∧ u.storeFrame t (s.sp - 2)))

/-- The instruction pops a word: the low byte at sp, the high byte at sp+1; it faults as the first or the second read does,
with what was done before, and otherwise `post` holds of the high and the low byte. -/
def PopsThen (i : Instr) (s : State) (post : Byte → Byte → Prop) : Prop :=
  let u := { s with sp := s.sp + 1, draws := s.draws + 1 }
  (∀ r, readFault s.sp s = some r → exec i s = .fault (raiseFault r s)) ∧
    (readFault s.sp s = none →
      (∀ r, readFault (s.sp + 1) u = some r → exec i s = .fault (raiseFault r u)) ∧
        (readFault (s.sp + 1) u = none → post (readByte (s.sp + 1) u) (readByte s.sp s)))

/-- The three forms of an ALU operation (41_alu8.md R250): with the operand `v` A becomes `result v` and the flags become
`flags v`. -/
def AluForms (op : AluOp) (s : State) (result : Byte → Byte) (flags : Byte → Flags) : Prop :=
  (∀ r, Completes (Instr.aluReg op r) s [.a] (flags (s.reg r)) s.pc s.sp 4 0 fun t => t.regs.a = result (s.reg r)) ∧
    (∀ n, Completes (Instr.aluImm op n) s [.a] (flags n) s.pc s.sp 8 0 fun t => t.regs.a = result n) ∧
    ReadsByte (Instr.aluHL op) s s.hl fun v =>
      Completes (Instr.aluHL op) s [.a] (flags v) s.pc s.sp 8 1 fun t => t.regs.a = result v

/-- The registers a pair is made of; SP is none of them. -/
def pairHalves (p : RegPair) : List Reg8 :=
  match p with
  | .bc => [.b, .c]
  | .de => [.d, .e]
  | .hl => [.h, .l]
  | .sp => []

/-- The result of a rotate or shift as an operation on the whole byte, 43_rotate_shift_bit.md R335 to R356. -/
def rotResult (op : RotOp) (v : Byte) (cin : Bool) : Byte :=
  match op with
  | .rlc => v.rotateLeft 1
  | .rrc => v.rotateRight 1
  | .rl => v <<< 1 ||| (if cin then 0x01#8 else 0x00#8)
  | .rr => v >>> 1 ||| (if cin then 0x80#8 else 0x00#8)
  | .sla => v <<< 1
  | .sra => v.sshiftRight 1
  | .swap => v.rotateLeft 4
  | .srl => v >>> 1

/-- The bit shifted out, 43_rotate_shift_bit.md R335 to R356. -/
def rotOut (op : RotOp) (v : Byte) : Bool :=
  match op with
  | .rlc | .rl | .sla => v.getLsbD 7
  | .rrc | .rr | .sra | .srl => v.getLsbD 0
  | .swap => false

/-- The byte a DMA read finds at an address, `d` standing for its open bits: the address map's, or a draw where
`hwAccessRestrictions` hides OAM or VRAM in the PPU's mode (20_memory.md R116, 60_exceptions.md R489). -/
def State.sourceByte (s : State) (d : Byte) (addr : Word) : Byte :=
  let n := addr.toNat
  if s.launch.hwAccessRestrictions = true ∧
      ((0xFE00 ≤ n ∧ n ≤ 0xFE9F ∧ (s.ppu.mode = .oamSearch ∨ s.ppu.mode = .pixelTransfer)) ∨
        (0x8000 ≤ n ∧ n ≤ 0x9FFF ∧ s.ppu.mode = .pixelTransfer))
  then d else peek d addr s

/-- `n` DMA steps one after another; a fault ends them. -/
def dmaSteps (n : Nat) (s : State) : Result :=
  match n with
  | 0 => .next s
  | k + 1 => andThen (dmaSteps k s) dmaStep

end Sys2Proof.Machine
end

