-- ==== Sys2Proof/Certificates/Slice0/Obligations.lean ====
section
/-! DEFINITION. The statements about the model that are to be proved. Each docstring names the rules of spec/ it formalises;
the shapes `Completes`, `ReadsByte`, `StoresByte`, `ModifiesByteAtHL`, `PushesThen`, `PopsThen`, `AluForms` and the frames are
in Sys2Proof/Safety.lean, the instruction families (`Instr.ldRegReg`, …) in Sys2Proof/Decode.lean. -/

open Sys2Proof Sys2Proof.Machine

/-! ### Reset and launch -/

/-- The machine after reset, 70_reset_and_hazards.md R600 to R603, whatever the launch inputs: on the monochrome console the
documented post-boot registers, on the colour console `colorBootRegs`; pc, sp, the control state and the devices; IE and IF
are `ieReset` and `ifReset`; what the spec draws (RAM, OBP0, OBP1, the APU but for its power bit, the joypad's samples), the
external RAM, the image and the launch parameters are the launch's. A cell of RAM, of the external RAM or of the image that
the launch does not list reads 0x00, the model's choice (log 3); that the loader reads the colour-support flag by a list of
values is also its choice (log 32). -/
def Obligations.ResetState : Prop :=
  ∀ (x : LaunchInput) (s : State), (s = launchState x ∨ (s = State.reset ∧ x = emptyLaunch)) →
    (s.launch.colorMode = false →
      s.regs.a = 0x01#8 ∧ s.flags.toByte = 0xB0#8 ∧ s.bc = 0x0013#16 ∧ s.de = 0x00D8#16 ∧ s.hl = 0x014D#16) ∧
    (s.launch.colorMode = true → s.regs = x.colorRegs ∧ s.flags = x.colorFlags) ∧
    (s.launch.colorMode = true ↔ x.imageByte 0x146 ∈ x.colorValues) ∧
    s.launch = { colorMode := s.launch.colorMode, haltBug := x.haltBug, statLycInterrupt := x.statLycInterrupt,
                 hwAccessRestrictions := x.hwAccessRestrictions, exitAddr := x.exitAddr } ∧
    s.pc = 0x0100#16 ∧ s.sp = 0xFFFE#16 ∧
    s.ime = false ∧ s.imePending = false ∧ s.halted = false ∧ s.haltBugLatch = false ∧ s.doubleSpeed = false ∧
    s.speedArmed = false ∧ s.ie = x.ieReset ∧ s.iflag = x.ifReset ∧
    (∀ off, s.cell (Key.rom off) = x.imageByte off) ∧
    (∀ off, off < 0x20000 → s.cell (Key.extRam off) = listedByte x.extRam off) ∧
    (∀ n, (0xC000 ≤ n ∧ n < 0xE000) ∨ (0xFE00 ≤ n ∧ n < 0xFEA0) ∨ (0xFF30 ≤ n ∧ n < 0xFF40) ∨ (0xFF80 ≤ n ∧ n < 0xFFFF) →
      s.cell n = listedByte x.ramInit n) ∧
    (∀ bank off, off < 0x2000 → s.cell (Key.vram bank off) = listedByte x.ramInit (Key.vram bank off)) ∧
    (∀ i, i < 64 → s.cell (Key.bgPal i) = listedByte x.ramInit (Key.bgPal i) ∧
      s.cell (Key.objPal i) = listedByte x.ramInit (Key.objPal i)) ∧
    (∀ i, i < 512 → (s.cell (Key.mbc2 i)).toNat = (listedByte x.ramInit (Key.mbc2 i)).toNat % 16) ∧
    s.timer = { div := 0, divSub := 0, tima := 0, tma := 0, tac := 0, timaSub := 0 } ∧
    s.dma = { oam := none, dmaReg := 0, vram := none, hdma1 := 0, hdma2 := 0, hdma3 := 0, hdma4 := 0 } ∧
    s.ppu.lcdc = 0x91#8 ∧ s.ppu.ly = 0#8 ∧ s.ppu.dot = 0 ∧ s.ppu.mode = .oamSearch ∧ s.ppu.statEnables = 0#4 ∧
    s.ppu.lyc = 0#8 ∧ s.ppu.scy = 0#8 ∧ s.ppu.scx = 0#8 ∧ s.ppu.wx = 0#8 ∧ s.ppu.wy = 0#8 ∧ s.ppu.bgp = 0xFC#8 ∧
    s.ppu.obp0 = x.obp0 ∧ s.ppu.obp1 = x.obp1 ∧
    s.ppu.vbk = false ∧ s.ppu.bcps = { index := 0, auto := false } ∧ s.ppu.ocps = { index := 0, auto := false } ∧
    s.apu.power = true ∧ s.apu = { x.apu with nr52 := s.apu.nr52 } ∧
    (∀ k, k < 7 → s.apu.nr52.getLsbD k = x.apu.nr52.getLsbD k) ∧
    s.pad.select = 0b00#2 ∧ s.pad.prevLines = 0xF#4 ∧ s.pad.inputs = x.joypadInput ∧ s.sched.frameCycles = 0

/-- The loader and the header, 20_memory.md R106, R107, R114, R115, 70_reset_and_hazards.md R602, R605: the title; which
cartridges are accepted; what an accepted one has, its controller with ROM bank 1, RAM bank 0, RAM disabled and mode 0; the
choice of `colorMode` by the flag, whose reading is the model's choice (log 32), as is that MBC1's and MBC3's registers give
these banks by being 0 (log 19); and that a machine with a refused cartridge takes no step. -/
def Obligations.LoaderChecksHeader : Prop :=
  ∀ x : LaunchInput,
    let kind := (x.imageByte 0x147).toNat
    let ram := (x.imageByte 0x149).toNat
    let s := launchState x
    let romOnly := [0x00, 0x08, 0x09]
    let mbc1 := [0x01, 0x02, 0x03]
    let mbc2 := [0x05, 0x06]
    let mbc3 := [0x0F, 0x10, 0x11, 0x12, 0x13]
    let mbc5 := [0x19, 0x1A, 0x1B, 0x1C, 0x1D, 0x1E]
    x.header.title.length = 16 ∧ (∀ i, i < 16 → x.header.title[i]? = some (x.imageByte (0x134 + i))) ∧
    (s.launch.colorMode = true ↔ x.imageByte 0x146 ∈ x.colorValues) ∧
    (kind ∉ romOnly ++ mbc1 ++ mbc2 ++ mbc3 ++ mbc5 → s.fault = some (.cartridgeConfig (x.imageByte 0x147))) ∧
    (kind ∈ romOnly ++ mbc1 ++ mbc2 ++ mbc3 ++ mbc5 → 3 < ram →
      s.fault = some (.cartridgeConfig (x.imageByte 0x149))) ∧
    (kind ∈ romOnly ++ mbc1 ++ mbc2 ++ mbc3 ++ mbc5 → ram ≤ 3 →
      s.fault = none ∧ s.cart.romBanks * 0x4000 = 0x8000 * 2 ^ (x.imageByte 0x148).toNat ∧
      s.cart.ramBytes = [0, 0x800, 0x2000, 0x8000].getD ram 0 ∧ s.cart.romBank = 1 ∧
      (kind ∉ romOnly → ∀ off, s.cart.extRam off = .absent) ∧
      (kind ∈ romOnly ↔ s.cart.mapper = .romOnly) ∧
      (kind ∈ mbc1 ↔ ∃ low5 high2, s.cart.mapper = .mbc1 low5 high2 false false) ∧
      (kind ∈ mbc2 ↔ s.cart.mapper = .mbc2 1 false) ∧
      (kind ∈ mbc3 ↔ ∃ sel rtc, s.cart.mapper = .mbc3 1 sel false rtc ∧ sel = 0#8) ∧
      (kind ∈ mbc5 ↔ s.cart.mapper = .mbc5 1 0 false)) ∧
    (∀ r, s.fault = some r → step s = .fault (raiseFault r s))

/-! ### Decoding -/

/-- Every well-formed instruction is read back from its own bytes, whatever follows them (30_encoding.md R160, R165). -/
def Obligations.DecodeReadsEncodedInstruction : Prop :=
  ∀ (i : Instr) (rest : List Byte), i.wellFormed = true → decode (encode i ++ rest) = .ok (i, rest)

/-- Decoding is total and takes the length from the first byte alone (30_encoding.md R168, R169): a sequence that is long
enough decodes to a well-formed instruction whose bytes are exactly the ones taken. -/
def Obligations.DecodeIsTotal : Prop :=
  ∀ (op : Byte) (rest : List Byte),
    (rest.length + 1 < instrLength op → decode (op :: rest) = .error (.truncated op)) ∧
    (instrLength op ≤ rest.length + 1 →
      ∃ i : Instr, decode (op :: rest) = .ok (i, rest.drop (instrLength op - 1)) ∧ i.wellFormed = true ∧
        encode i = (op :: rest).take (instrLength op))

/-- Exactly eleven base opcodes spell no instruction, and executing one stops the machine with `IllegalOpcode(op, addr)`
(30_encoding.md R166, 45_system.md R426): the instruction faults from every state, and the step that fetches one leaves pc
one past it. -/
def Obligations.IllegalOpcodesFault : Prop :=
  (∀ (op b1 b2 : Byte),
    op.toNat ∈ [0xD3, 0xDB, 0xDD, 0xE3, 0xE4, 0xEB, 0xEC, 0xED, 0xF4, 0xFC, 0xFD] ↔
      decodeBytes op b1 b2 ∈ [.illegalD3, .illegalDB, .illegalDD, .illegalE3, .illegalE4, .illegalEB, .illegalEC,
        .illegalED, .illegalF4, .illegalFC, .illegalFD]) ∧
  ∀ (op b1 b2 : Byte) (s : State),
    op.toNat ∈ [0xD3, 0xDB, 0xDD, 0xE3, 0xE4, 0xEB, 0xEC, 0xED, 0xF4, 0xFC, 0xFD] →
      exec (decodeBytes op b1 b2) s =
        .fault (.illegalOpcode op s.opAddr { s with fault := some (.illegalOpcode op s.opAddr) }) ∧
      (s.fault = none → s.halted = false → s.haltBugLatch = false → readFault s.pc (beginStep s) = none →
        readByte s.pc (beginStep s) = op →
        step s = .fault (.illegalOpcode op s.pc
          { beginStep s with pc := s.pc + 1, opAddr := s.pc, draws := s.draws + 1,
                             fault := some (.illegalOpcode op s.pc) }))

/-- The opcode of every family is its fields at their places (30_encoding.md R151 to R158, R161 to R165). -/
def Obligations.OpcodesFollowTheFields : Prop :=
  ∀ (y z : Fin 8) (p : Fin 4) (cc : Fin 4) (n : Byte) (nn : Word),
    (∀ r, Reg8.ofField y = some r →
      encode (Instr.incReg r) = [BitVec.ofNat 8 (0x04 + 8 * y)] ∧
      encode (Instr.decReg r) = [BitVec.ofNat 8 (0x05 + 8 * y)] ∧
      encode (Instr.ldRegImm r n) = [BitVec.ofNat 8 (0x06 + 8 * y), n] ∧
      encode (Instr.ldRegHL r) = [BitVec.ofNat 8 (0x46 + 8 * y)] ∧
      encode (Instr.ldHLReg r) = [BitVec.ofNat 8 (0x70 + y)] ∧
      ∀ q, Reg8.ofField z = some q → encode (Instr.ldRegReg r q) = [BitVec.ofNat 8 (0x40 + 8 * y + z)]) ∧
    (∀ r, Reg8.ofField z = some r →
      encode (Instr.aluReg (AluOp.ofField y) r) = [BitVec.ofNat 8 (0x80 + 8 * y + z)] ∧
      encode (Instr.rotReg (RotOp.ofField y) r) = [0xCB#8, BitVec.ofNat 8 (8 * y + z)] ∧
      encode (Instr.bitReg y r) = [0xCB#8, BitVec.ofNat 8 (0x40 + 8 * y + z)] ∧
      encode (Instr.resReg y r) = [0xCB#8, BitVec.ofNat 8 (0x80 + 8 * y + z)] ∧
      encode (Instr.setReg y r) = [0xCB#8, BitVec.ofNat 8 (0xC0 + 8 * y + z)]) ∧
    encode (Instr.aluHL (AluOp.ofField y)) = [BitVec.ofNat 8 (0x86 + 8 * y)] ∧
    encode (Instr.aluImm (AluOp.ofField y) n) = [BitVec.ofNat 8 (0xC6 + 8 * y), n] ∧
    encode (Instr.rotHL (RotOp.ofField y)) = [0xCB#8, BitVec.ofNat 8 (0x06 + 8 * y)] ∧
    encode (Instr.bitHL y) = [0xCB#8, BitVec.ofNat 8 (0x46 + 8 * y)] ∧
    encode (Instr.resHL y) = [0xCB#8, BitVec.ofNat 8 (0x86 + 8 * y)] ∧
    encode (Instr.setHL y) = [0xCB#8, BitVec.ofNat 8 (0xC6 + 8 * y)] ∧
    encode (Instr.rst y) = [BitVec.ofNat 8 (0xC7 + 8 * y)] ∧
    encode (Instr.ldPairImm (RegPair.ofField p) nn) =
      [BitVec.ofNat 8 (0x01 + 16 * p), nn.extractLsb' 0 8, nn.extractLsb' 8 8] ∧
    encode (Instr.incPair (RegPair.ofField p)) = [BitVec.ofNat 8 (0x03 + 16 * p)] ∧
    encode (Instr.addHLPair (RegPair.ofField p)) = [BitVec.ofNat 8 (0x09 + 16 * p)] ∧
    encode (Instr.decPair (RegPair.ofField p)) = [BitVec.ofNat 8 (0x0B + 16 * p)] ∧
    encode (Instr.popPair (StackPair.ofField p)) = [BitVec.ofNat 8 (0xC1 + 16 * p)] ∧
    encode (Instr.pushPair (StackPair.ofField p)) = [BitVec.ofNat 8 (0xC5 + 16 * p)] ∧
    encode (Instr.jrCond (Cond.ofField cc) n) = [BitVec.ofNat 8 (0x20 + 8 * cc), n] ∧
    encode (Instr.retCond (Cond.ofField cc)) = [BitVec.ofNat 8 (0xC0 + 8 * cc)] ∧
    encode (Instr.jpCond (Cond.ofField cc) nn) =
      [BitVec.ofNat 8 (0xC2 + 8 * cc), nn.extractLsb' 0 8, nn.extractLsb' 8 8] ∧
    encode (Instr.callCond (Cond.ofField cc) nn) =
      [BitVec.ofNat 8 (0xC4 + 8 * cc), nn.extractLsb' 0 8, nn.extractLsb' 8 8]

/-- Some words of the spec's encoding, one of each format and more, decode to the instruction they stand for
(30_encoding.md R150, R160, R165). -/
def Obligations.SampleWordsDecode : Prop :=
  decode [0b00000000#8] = .ok (.nop, []) ∧
  decode [0b01111000#8] = .ok (.ldAB, []) ∧
  decode [0b00110110#8, 0x7F#8] = .ok (.ldAtHLD8 0x7F#8, []) ∧
  decode [0b00001000#8, 0x00#8, 0xC0#8] = .ok (.ldAtA16SP 0xC000#16, []) ∧
  decode [0b11000011#8, 0x34#8, 0x12#8] = .ok (.jpA16 0x1234#16, []) ∧
  decode [0b11001011#8, 0b01111100#8] = .ok (.bit7H, []) ∧
  decode [0b11010011#8] = .ok (.illegalD3, []) ∧
  decode [0b00010000#8, 0x00#8, 0x76#8] = .ok (.stop 0x00#8, [0x76#8])

/-! ### The step -/

/-- A step runs the instruction whose bytes stand at pc (60_exceptions.md R452, 30_encoding.md R170, 00_scope.md R12): with
the bytes readable and equal to the encoding of `i`, the step is `exec i` on the state after the fetch (pc past the bytes,
one draw per byte), then the interrupt check, the devices and the accounting. -/
def Obligations.StepRunsDecodedInstruction : Prop :=
  ∀ (s : State) (i : Instr),
    let b := beginStep s
    s.fault = none → s.halted = false → s.haltBugLatch = false → i.wellFormed = true →
    (∀ k, k < (encode i).length →
      readFault (s.pc + BitVec.ofNat 16 k) b = none ∧
      readByte (s.pc + BitVec.ofNat 16 k) { b with draws := s.draws + k } = (encode i).getD k 0) →
    step s =
      andThen (exec i { b with pc := s.pc + BitVec.ofNat 16 (encode i).length, opAddr := s.pc,
                               draws := s.draws + (encode i).length }) fun t =>
        andThen (checkInterrupts t) fun u => andThen (devicePhase s.doubleSpeed u) fun w => .next (accountFrame w)

/-- `Fetch8()`, 00_scope.md R12 and 10_state.md R48: the byte at pc, and pc one further, unless the HALT bug's latch is set:
then pc stays and the latch is cleared. -/
def Obligations.FetchReadsByteAtPc : Prop :=
  ∀ s : State,
    (∀ r, readFault s.pc s = some r → fetch8 s = .fault (raiseFault r s)) ∧
    (readFault s.pc s = none →
      (s.haltBugLatch = false → fetch8 s = .ok (readByte s.pc s) { s with draws := s.draws + 1, pc := s.pc + 1 }) ∧
      (s.haltBugLatch = true →
        fetch8 s = .ok (readByte s.pc s) { s with draws := s.draws + 1, haltBugLatch := false }))

/-- Steps that run no instruction: a faulted core takes none and keeps its state (60_exceptions.md R473); a halted core
fetches nothing, spends 4 cycles and goes on with the interrupt check and the devices (R454). That a step from a faulted
state answers its fault again, with the state as it is, is the model's form of R473's "no step" (log 8). -/
def Obligations.StepsWithoutInstruction : Prop :=
  ∀ s : State,
    (∀ r, s.fault = some r → step s = .fault (raiseFault r s) ∧ faultLeft (raiseFault r s) = s) ∧
    (s.fault = none → s.halted = true →
      step s = andThen (checkInterrupts { beginStep s with cyc := 4 }) fun u =>
        andThen (devicePhase s.doubleSpeed u) fun w => .next (accountFrame w))

/-- A fault is recorded and a next state has none (60_exceptions.md R470, R473, 10_state.md R49): whatever fault a step ends
in, the state it leaves holds that same reason. -/
def Obligations.FaultsAreRecorded : Prop :=
  ∀ (s : State),
    (∀ t, step s = .next t → t.fault = none) ∧
    (∀ f, step s = .fault f → ∃ r, f = raiseFault r (faultLeft f) ∧ (faultLeft f).fault = some r) ∧
    (∀ q, step s ≠ .refused q)

/-- EI enables interrupts one instruction late, DI disables them at once (45_system.md R423, R424; 60_exceptions.md R455;
70_reset_and_hazards.md R611, R612). EI's own check dispatches nothing, and the next step begins with `ime` set; DI's own
check dispatches nothing. -/
def Obligations.EnableIsDelayedDisableIsNot : Prop :=
  ∀ s : State,
    (∃ t u, exec .ei s = .next t ∧ checkInterrupts t = .next u ∧ u.pc = s.pc ∧ u.sp = s.sp ∧ u.iflag = s.iflag ∧
      u.ime = s.ime ∧ u.imePending = true ∧ (beginStep u).ime = true ∧ (beginStep u).imePending = false) ∧
    (∃ t u, exec .di s = .next t ∧ checkInterrupts t = .next u ∧ u.pc = s.pc ∧ u.sp = s.sp ∧ u.iflag = s.iflag ∧
      u.ime = false ∧ u.imePending = false) ∧
    (s.imePending = false → (beginStep s).ime = s.ime ∧ (beginStep s).imePending = false)

/-- Taking an interrupt, 60_exceptions.md R460, R461, R462: with `ime` set and not pending-set, the lowest-numbered bit set
in both IE and IF is taken. Its request, `ime` and `halted` are cleared, pc is pushed, pc becomes 0x0040 + 8n, 20 cycles are
added; flags, registers and `imePending` stay. `n` is the bit number. -/
def Obligations.DispatchTakesLowestInterrupt : Prop :=
  ∀ (s : State) (n : Nat), n < 5 → s.ime = true → s.imePending = false →
    s.ie.getLsbD n = true → s.iflag.getLsbD n = true →
    (∀ k, k < n → (s.ie.getLsbD k && s.iflag.getLsbD k) = false) →
    let a := { s with iflag := s.iflag &&& ~~~(1#5 <<< n), ime := false, halted := false }
    (∀ p, push16 s.pc a = .next p →
      ∃ t, checkInterrupts s = .next t ∧ t = { p with pc := BitVec.ofNat 16 (0x40 + 8 * n), cyc := s.cyc + 20 } ∧
        t.sp = s.sp - 2 ∧ t.regs = s.regs ∧ t.flags = s.flags ∧ t.ime = false ∧ t.halted = false ∧
        t.imePending = false) ∧
    (∀ f, push16 s.pc a = .fault f → checkInterrupts s = .fault f)

/-- No dispatch, 60_exceptions.md R459, R461 and R464: with nothing pending, with `ime` clear, or with `imePending` set the
check changes nothing but that something pending ends a halt. Bits of IF whose enable is clear stay. -/
def Obligations.CheckWithoutDispatch : Prop :=
  ∀ s : State, (s.ie &&& s.iflag = 0#5 ∨ s.ime = false ∨ s.imePending = true) →
    checkInterrupts s = .next { s with halted := s.halted && decide (s.ie &&& s.iflag = 0#5) }

/-! ### Loads, stores and the stack, 40_load.md -/

/-- LD r,r' and LD r,d8 for all registers, 40_load.md R201, R202. -/
def Obligations.RegisterLoads : Prop :=
  ∀ (dst src : Reg8) (n : Byte) (s : State),
    Completes (Instr.ldRegReg dst src) s [dst] s.flags s.pc s.sp 4 0 (fun t => t.reg dst = s.reg src) ∧
    Completes (Instr.ldRegImm dst n) s [dst] s.flags s.pc s.sp 8 0 (fun t => t.reg dst = n)

/-- The loads of a byte from memory, 40_load.md R203, R206, R207, R210, R212, R214: LD r,(HL), LD A,(BC), LD A,(DE),
LD A,(a16), LDH A,(a8), LD A,(C). -/
def Obligations.MemoryLoads : Prop :=
  ∀ (r : Reg8) (n : Byte) (nn : Word) (s : State),
    let loads := fun (i : Instr) (dst : Reg8) (addr : Word) (cycles : Nat) =>
      ReadsByte i s addr fun v => Completes i s [dst] s.flags s.pc s.sp cycles 1 fun t => t.reg dst = v
    loads (Instr.ldRegHL r) r (s.regs.h ++ s.regs.l) 8 ∧
    loads .ldAAtBC .a (s.regs.b ++ s.regs.c) 8 ∧
    loads .ldAAtDE .a (s.regs.d ++ s.regs.e) 8 ∧
    loads (.ldAAtA16 nn) .a nn 16 ∧
    loads (.ldhAAtA8 n) .a (0xFF00#16 + n.setWidth 16) 12 ∧
    loads .ldAAtC .a (0xFF00#16 + s.regs.c.setWidth 16) 8

/-- The stores of a byte, 40_load.md R204, R205, R208, R209, R211, R213, R215: LD (HL),r, LD (HL),d8, LD (BC),A,
LD (DE),A, LD (a16),A, LDH (a8),A, LD (C),A. -/
def Obligations.MemoryStores : Prop :=
  ∀ (r : Reg8) (n : Byte) (nn : Word) (s : State),
    StoresByte (Instr.ldHLReg r) s (s.regs.h ++ s.regs.l) (s.reg r) s.regs 8 ∧
    StoresByte (.ldAtHLD8 n) s (s.regs.h ++ s.regs.l) n s.regs 12 ∧
    StoresByte .ldAtBCA s (s.regs.b ++ s.regs.c) s.regs.a s.regs 8 ∧
    StoresByte .ldAtDEA s (s.regs.d ++ s.regs.e) s.regs.a s.regs 8 ∧
    StoresByte (.ldAtA16A nn) s nn s.regs.a s.regs 16 ∧
    StoresByte (.ldhAtA8A n) s (0xFF00#16 + n.setWidth 16) s.regs.a s.regs 12 ∧
    StoresByte .ldAtCA s (0xFF00#16 + s.regs.c.setWidth 16) s.regs.a s.regs 8

/-- The loads and stores through HL with post-modification, 40_load.md R216 to R219: the access is at the old HL; HL moves by
one modulo 2^16, and only when the access did not fault. -/
def Obligations.PostModifiedAccesses : Prop :=
  ∀ (s : State),
    let up := s.hl + 1
    let down := s.hl - 1
    (ReadsByte .ldAAtHLInc s s.hl fun v =>
      Completes .ldAAtHLInc s [.a, .h, .l] s.flags s.pc s.sp 8 1 fun t => t.regs.a = v ∧ t.hl = up) ∧
    (ReadsByte .ldAAtHLDec s s.hl fun v =>
      Completes .ldAAtHLDec s [.a, .h, .l] s.flags s.pc s.sp 8 1 fun t => t.regs.a = v ∧ t.hl = down) ∧
    StoresByte .ldAtHLIncA s s.hl s.regs.a
      { s.regs with h := up.extractLsb' 8 8, l := up.extractLsb' 0 8 } 8 ∧
    StoresByte .ldAtHLDecA s s.hl s.regs.a
      { s.regs with h := down.extractLsb' 8 8, l := down.extractLsb' 0 8 } 8

/-- The 16-bit loads, 40_load.md R220, R221, R222: LD dd,d16 (high register first), LD SP,HL, and LD (a16),SP, which stores
the low byte at a16 and then the high byte at a16 + 1. -/
def Obligations.WordLoads : Prop :=
  ∀ (nn : Word) (s : State),
    let hi := nn.extractLsb' 8 8
    let lo := nn.extractLsb' 0 8
    Completes (.ldBCD16 nn) s [.b, .c] s.flags s.pc s.sp 12 0 (fun t => t.regs.b = hi ∧ t.regs.c = lo) ∧
    Completes (.ldDED16 nn) s [.d, .e] s.flags s.pc s.sp 12 0 (fun t => t.regs.d = hi ∧ t.regs.e = lo) ∧
    Completes (.ldHLD16 nn) s [.h, .l] s.flags s.pc s.sp 12 0 (fun t => t.regs.h = hi ∧ t.regs.l = lo) ∧
    Completes (.ldSPD16 nn) s [] s.flags s.pc nn 12 0 (fun _ => True) ∧
    Completes .ldSPHL s [] s.flags s.pc (s.regs.h ++ s.regs.l) 8 0 (fun _ => True) ∧
    let u := writeByte nn (s.sp.extractLsb' 0 8) s
    (∀ r, writeFault nn (s.sp.extractLsb' 0 8) s = some r → exec (.ldAtA16SP nn) s = .fault (raiseFault r s)) ∧
    (writeFault nn (s.sp.extractLsb' 0 8) s = none →
      (∀ r, writeFault (nn + 1) (s.sp.extractLsb' 8 8) u = some r →
        exec (.ldAtA16SP nn) s = .fault (raiseFault r u)) ∧
      (writeFault (nn + 1) (s.sp.extractLsb' 8 8) u = none →
        ∃ t, exec (.ldAtA16SP nn) s = .next t ∧
          t = { writeByte (nn + 1) (s.sp.extractLsb' 8 8) u with cyc := 20 } ∧
          s.storeFrame u nn ∧ u.storeFrame t (nn + 1)))

/-- PUSH and POP for all four pairs, 40_load.md R223, R224: PUSH AF pushes F with its low four bits 0, POP AF writes the four
flags from bits 7 to 4 of the byte popped and discards bits 3 to 0. -/
def Obligations.PushAndPop : Prop :=
  ∀ (s : State),
    PushesThen .pushBC s s.regs.b s.regs.c s.pc 16 ∧
    PushesThen .pushDE s s.regs.d s.regs.e s.pc 16 ∧
    PushesThen .pushHL s s.regs.h s.regs.l s.pc 16 ∧
    PushesThen .pushAF s s.regs.a
      ((if s.flags.z then 0x80#8 else 0) ||| (if s.flags.n then 0x40#8 else 0) ||| (if s.flags.h then 0x20#8 else 0) |||
        (if s.flags.cy then 0x10#8 else 0)) s.pc 16 ∧
    (PopsThen .popBC s fun hi lo =>
      Completes .popBC s [.b, .c] s.flags s.pc (s.sp + 2) 12 2 fun t => t.regs.b = hi ∧ t.regs.c = lo) ∧
    (PopsThen .popDE s fun hi lo =>
      Completes .popDE s [.d, .e] s.flags s.pc (s.sp + 2) 12 2 fun t => t.regs.d = hi ∧ t.regs.e = lo) ∧
    (PopsThen .popHL s fun hi lo =>
      Completes .popHL s [.h, .l] s.flags s.pc (s.sp + 2) 12 2 fun t => t.regs.h = hi ∧ t.regs.l = lo) ∧
    (PopsThen .popAF s fun hi lo =>
      Completes .popAF s [.a] { z := lo.getLsbD 7, n := lo.getLsbD 6, h := lo.getLsbD 5, cy := lo.getLsbD 4 } s.pc
        (s.sp + 2) 12 2 fun t => t.regs.a = hi ∧ t.flags.toByte = lo &&& 0xF0#8)

/-! ### 8-bit arithmetic and logic, 41_alu8.md -/

/-- ADD and ADC in all their forms, 41_alu8.md R251 to R258. -/
def Obligations.AddAndAdc : Prop :=
  ∀ (s : State),
    let a := s.regs.a.toNat
    let c := s.flags.cy.toNat
    AluForms .add s (fun v => BitVec.ofNat 8 (a + v.toNat)) (fun v =>
      { z := decide ((a + v.toNat) % 256 = 0), n := false, h := decide (a % 16 + v.toNat % 16 > 15),
        cy := decide (a + v.toNat > 255) }) ∧
    AluForms .adc s (fun v => BitVec.ofNat 8 (a + v.toNat + c)) (fun v =>
      { z := decide ((a + v.toNat + c) % 256 = 0), n := false, h := decide (a % 16 + v.toNat % 16 + c > 15),
        cy := decide (a + v.toNat + c > 255) })

/-- SUB, SBC and CP in all their forms, 41_alu8.md R259 to R266 and R279 to R282: CP keeps A. -/
def Obligations.SubSbcAndCp : Prop :=
  ∀ (s : State),
    let a := s.regs.a.toNat
    let c := s.flags.cy.toNat
    let difference := fun (v : Byte) => (a : Int) - v.toNat
    let flagsOf := fun (v : Byte) =>
      { z := decide (a = v.toNat), n := true, h := decide (a % 16 < v.toNat % 16), cy := decide (a < v.toNat) }
    AluForms .sub s (fun v => BitVec.ofInt 8 (difference v)) flagsOf ∧
    AluForms .sbc s (fun v => BitVec.ofInt 8 (difference v - c)) (fun v =>
      { z := decide ((difference v - c) % 256 = 0), n := true, h := decide (a % 16 < v.toNat % 16 + c),
        cy := decide (a < v.toNat + c) }) ∧
    AluForms .cp s (fun _ => s.regs.a) flagsOf

/-- AND, XOR and OR in all their forms, 41_alu8.md R267 to R278: bit by bit on A, with H set by AND alone and Cy cleared. -/
def Obligations.AndXorOr : Prop :=
  ∀ (s : State),
    let a := s.regs.a
    AluForms .and s (fun v => a &&& v) (fun v =>
      { z := decide (a.toNat &&& v.toNat = 0), n := false, h := true, cy := false }) ∧
    AluForms .xor s (fun v => a ^^^ v) (fun v => { z := decide (a = v), n := false, h := false, cy := false }) ∧
    AluForms .or s (fun v => a ||| v) (fun v =>
      { z := decide (a = 0#8) && decide (v = 0#8), n := false, h := false, cy := false })

/-- INC and DEC of a register or of the byte at HL, 41_alu8.md R283 to R286: Cy is unchanged. That a faulting write of the
(HL) form leaves the flags as they were is the model's choice (log 13). -/
def Obligations.IncrementAndDecrement : Prop :=
  ∀ (r : Reg8) (s : State),
    let incFlags := fun (v : Byte) =>
      { z := decide (v = 0xFF#8), n := false, h := decide (v.toNat % 16 = 15), cy := s.flags.cy }
    let decFlags := fun (v : Byte) =>
      { z := decide (v = 0x01#8), n := true, h := decide (v.toNat % 16 = 0), cy := s.flags.cy }
    Completes (Instr.incReg r) s [r] (incFlags (s.reg r)) s.pc s.sp 4 0
      (fun t => (t.reg r).toNat = ((s.reg r).toNat + 1) % 256) ∧
    Completes (Instr.decReg r) s [r] (decFlags (s.reg r)) s.pc s.sp 4 0
      (fun t => (t.reg r).toNat = ((s.reg r).toNat + 255) % 256) ∧
    ModifiesByteAtHL .incAtHL s (fun v => BitVec.ofNat 8 (v.toNat + 1)) incFlags 12 ∧
    ModifiesByteAtHL .decAtHL s (fun v => BitVec.ofNat 8 (v.toNat + 255)) decFlags 12

/-- DAA, CPL, SCF and CCF, 41_alu8.md R287 to R290. DAA's two tests read the original A; after a subtraction only H and Cy
count; N stays. -/
def Obligations.AccumulatorAdjustments : Prop :=
  ∀ (s : State),
    let a := s.regs.a.toNat
    let f := s.flags
    let low := if f.h = true ∨ (f.n = false ∧ a % 16 > 9) then 0x06 else 0
    let high := if f.cy = true ∨ (f.n = false ∧ a > 0x99) then 0x60 else 0
    let r := BitVec.ofInt 8 (if f.n then (a : Int) - (low + high) else a + (low + high))
    Completes .daa s [.a]
      { z := decide (r = 0#8), n := f.n, h := false, cy := decide (f.cy = true ∨ (f.n = false ∧ a > 0x99)) }
      s.pc s.sp 4 0 (fun t => t.regs.a = r) ∧
    Completes .cpl s [.a] { f with n := true, h := true } s.pc s.sp 4 0 (fun t => t.regs.a.toNat = 255 - a) ∧
    Completes .scf s [] { f with n := false, h := false, cy := true } s.pc s.sp 4 0 (fun _ => True) ∧
    Completes .ccf s [] { f with n := false, h := false, cy := !f.cy } s.pc s.sp 4 0 (fun _ => True)

/-! ### 16-bit arithmetic, 42_alu16.md -/

/-- INC ss, DEC ss, ADD HL,ss, ADD SP,e8 and LD HL,SP+e8, 42_alu16.md R301 to R305. -/
def Obligations.WordArithmetic : Prop :=
  ∀ (p : RegPair) (e : Byte) (s : State),
    let hl := s.hl.toNat
    let v := (s.pair p).toNat
    let spFlags : Flags :=
      { z := false, n := false, h := decide (s.sp.toNat % 16 + e.toNat % 16 > 0xF),
        cy := decide (s.sp.toNat % 256 + e.toNat > 0xFF) }
    let spSum := BitVec.ofInt 16 (s.sp.toNat + e.toInt)
    Completes (Instr.incPair p) s (pairHalves p) s.flags s.pc (if p = .sp then s.sp + 1 else s.sp) 8 0
      (fun t => (t.pair p).toNat = (v + 1) % 0x10000) ∧
    Completes (Instr.decPair p) s (pairHalves p) s.flags s.pc (if p = .sp then s.sp - 1 else s.sp) 8 0
      (fun t => (t.pair p).toNat = (v + 0xFFFF) % 0x10000) ∧
    Completes (Instr.addHLPair p) s [.h, .l]
      { z := s.flags.z, n := false, h := decide (hl % 0x1000 + v % 0x1000 > 0xFFF), cy := decide (hl + v > 0xFFFF) }
      s.pc s.sp 8 0 (fun t => t.hl.toNat = (hl + v) % 0x10000) ∧
    Completes (.addSPE8 e) s [] spFlags s.pc spSum 16 0 (fun _ => True) ∧
    Completes (.ldHLSPE8 e) s [.h, .l] spFlags s.pc s.sp 12 0 (fun t => t.hl = spSum)

/-! ### Rotates, shifts and single bits, 43_rotate_shift_bit.md -/

/-- The rotates and shifts of a register, 43_rotate_shift_bit.md R331 to R334 and R336, R339, R342, R345, R348, R351, R354,
R357: the prefixed forms set Z by the result; RLCA, RRCA, RLA and RRA always clear it. -/
def Obligations.RegisterRotates : Prop :=
  ∀ (op : RotOp) (r : Reg8) (s : State),
    let v := rotResult op (s.reg r) s.flags.cy
    let rotatesA := fun (i : Instr) (op : RotOp) =>
      Completes i s [.a] { z := false, n := false, h := false, cy := rotOut op s.regs.a } s.pc s.sp 4 0
        fun t => t.regs.a = rotResult op s.regs.a s.flags.cy
    rotatesA .rlca .rlc ∧ rotatesA .rrca .rrc ∧ rotatesA .rla .rl ∧ rotatesA .rra .rr ∧
    Completes (Instr.rotReg op r) s [r] { z := decide (v = 0#8), n := false, h := false, cy := rotOut op (s.reg r) }
      s.pc s.sp 8 0 fun t => t.reg r = v

/-- The prefixed rotates and shifts of the byte at HL, 43_rotate_shift_bit.md R337, R340, R343, R346, R349, R352, R355,
R358. That a faulting write leaves the flags as they were is the model's choice (log 13). -/
def Obligations.MemoryRotates : Prop :=
  ∀ (op : RotOp) (s : State),
    ModifiesByteAtHL (Instr.rotHL op) s (fun v => rotResult op v s.flags.cy)
      (fun v => { z := decide (rotResult op v s.flags.cy = 0#8), n := false, h := false, cy := rotOut op v }) 16

/-- BIT, RES and SET of a register bit, 43_rotate_shift_bit.md R359, R361, R363: BIT writes nothing but flags and keeps Cy;
RES and SET change the one bit and no flag. -/
def Obligations.RegisterBits : Prop :=
  ∀ (b : Fin 8) (r : Reg8) (s : State),
    Completes (Instr.bitReg b r) s [] { z := !(s.reg r).getLsbD b, n := false, h := true, cy := s.flags.cy } s.pc s.sp 8 0
      (fun _ => True) ∧
    Completes (Instr.resReg b r) s [r] s.flags s.pc s.sp 8 0
      (fun t => ∀ k, (t.reg r).getLsbD k = (decide (k ≠ b.val) && (s.reg r).getLsbD k)) ∧
    Completes (Instr.setReg b r) s [r] s.flags s.pc s.sp 8 0
      (fun t => ∀ k, k < 8 → (t.reg r).getLsbD k = (decide (k = b.val) || (s.reg r).getLsbD k))

/-- BIT, RES and SET of a bit of the byte at HL, 43_rotate_shift_bit.md R360, R362, R364: BIT only reads; RES and SET write
even where the bit was so already. -/
def Obligations.MemoryBits : Prop :=
  ∀ (b : Fin 8) (s : State),
    (ReadsByte (Instr.bitHL b) s s.hl fun v =>
      Completes (Instr.bitHL b) s [] { z := !v.getLsbD b, n := false, h := true, cy := s.flags.cy } s.pc s.sp 12 1
        fun _ => True) ∧
    ModifiesByteAtHL (Instr.resHL b) s (fun v => v &&& BitVec.ofNat 8 (255 - 2 ^ b.val)) (fun _ => s.flags) 16 ∧
    ModifiesByteAtHL (Instr.setHL b) s (fun v => v ||| BitVec.ofNat 8 (2 ^ b.val)) (fun _ => s.flags) 16

/-! ### Control transfer, 44_control.md -/

/-- JP, JP cc, JP HL, JR and JR cc, 44_control.md R381 to R385, with the conditions of 30_encoding.md R155. pc is the address
after the instruction's bytes when it runs. -/
def Obligations.Jumps : Prop :=
  ∀ (cc : Cond) (e : Byte) (nn : Word) (s : State),
    let taken := match cc with
      | .nz => !s.flags.z
      | .z => s.flags.z
      | .nc => !s.flags.cy
      | .c => s.flags.cy
    let target := BitVec.ofInt 16 (s.pc.toNat + e.toInt)
    Completes (.jpA16 nn) s [] s.flags nn s.sp 16 0 (fun _ => True) ∧
    Completes .jpHL s [] s.flags (s.regs.h ++ s.regs.l) s.sp 4 0 (fun _ => True) ∧
    Completes (.jrE8 e) s [] s.flags target s.sp 12 0 (fun _ => True) ∧
    Completes (Instr.jpCond cc nn) s [] s.flags (if taken then nn else s.pc) s.sp (if taken then 16 else 12) 0
      (fun _ => True) ∧
    Completes (Instr.jrCond cc e) s [] s.flags (if taken then target else s.pc) s.sp (if taken then 12 else 8) 0
      (fun _ => True)

/-- CALL, CALL cc and RST, 44_control.md R386, R387, R391: the address after the instruction is pushed; an untaken call
touches no stack. -/
def Obligations.Calls : Prop :=
  ∀ (cc : Cond) (k : Fin 8) (nn : Word) (s : State),
    let hi := s.pc.extractLsb' 8 8
    let lo := s.pc.extractLsb' 0 8
    PushesThen (.callA16 nn) s hi lo nn 24 ∧
    (s.flags.holds cc = true → PushesThen (Instr.callCond cc nn) s hi lo nn 24) ∧
    (s.flags.holds cc = false → Completes (Instr.callCond cc nn) s [] s.flags s.pc s.sp 12 0 fun _ => True) ∧
    PushesThen (Instr.rst k) s hi lo (BitVec.ofNat 16 (8 * k.val)) 16

/-- RET, RET cc and RETI, 44_control.md R388, R389, R390: pc is popped; RETI sets `ime` at once, so the check of its own step
sees it. -/
def Obligations.Returns : Prop :=
  ∀ (cc : Cond) (s : State),
    (PopsThen .ret s fun hi lo => Completes .ret s [] s.flags (hi ++ lo) (s.sp + 2) 16 2 fun _ => True) ∧
    (s.flags.holds cc = true → PopsThen (Instr.retCond cc) s fun hi lo =>
      Completes (Instr.retCond cc) s [] s.flags (hi ++ lo) (s.sp + 2) 20 2 fun _ => True) ∧
    (s.flags.holds cc = false → Completes (Instr.retCond cc) s [] s.flags s.pc s.sp 8 0 fun _ => True) ∧
    (PopsThen .reti s fun hi lo =>
      ∃ t, exec .reti s = .next t ∧
        t = { s with pc := hi ++ lo, sp := s.sp + 2, ime := true, imePending := false, cyc := 16,
                     draws := s.draws + 2 } ∧
        ∀ d b, peek d b t = peek d b s)

/-! ### System instructions, 45_system.md -/

/-- NOP, HALT, STOP, DI, EI and the prefix 0xCB, 45_system.md R420 to R425: their whole effect. HALT sets the HALT bug's latch instead of
halting where the bug exists, `ime` is clear and something is pending; STOP toggles the speed where it is primed on the
colour console and faults otherwise; the prefix with its second byte is the prefixed instruction, whose register forms
complete in 8 cycles. -/
def Obligations.SystemInstructions : Prop :=
  ∀ (x : Byte) (s : State),
    let bug := s.launch.haltBug = true ∧ s.ime = false ∧ s.ie &&& s.iflag ≠ 0#5
    Completes .nop s [] s.flags s.pc s.sp 4 0 (fun _ => True) ∧
    (bug → exec .halt s = .next { s with haltBugLatch := true, cyc := 4 }) ∧
    (¬ bug → exec .halt s = .next { s with halted := true, cyc := 4 }) ∧
    (s.launch.colorMode = true ∧ s.speedArmed = true →
      exec (.stop x) s = .next { s with doubleSpeed := !s.doubleSpeed, speedArmed := false, cyc := 4 }) ∧
    (¬ (s.launch.colorMode = true ∧ s.speedArmed = true) →
      exec (.stop x) s = .fault (.unmodelledStop s.opAddr { s with fault := some (.unmodelledStop s.opAddr) })) ∧
    exec .di s = .next { s with ime := false, imePending := false, cyc := 4 } ∧
    exec .ei s = .next { s with imePending := true, cyc := 4 } ∧
    exec (.prefixCB x) s = exec (decodePrefixed x) s ∧
    (x.toNat % 8 ≠ 6 → ∃ t, exec (.prefixCB x) s = .next t ∧ t.cyc = 8 ∧ t.pc = s.pc ∧ t.sp = s.sp ∧
      ∀ d b, peek d b t = peek d b s)

/-- What every instruction costs, 70_reset_and_hazards.md R620, 60_exceptions.md R453: one of the two counts of the cycle
table for its opcode, or of the prefixed opcode's count, and always a multiple of 4. -/
def Obligations.CyclesFollowTheTable : Prop :=
  ∀ (i : Instr) (s t : State), exec i s = .next t →
    (t.cyc = (Config.baseCycles ((encode i).getD 0 0)).1 ∨ t.cyc = (Config.baseCycles ((encode i).getD 0 0)).2 ∨
      ((encode i).getD 0 0 = 0xCB#8 ∧ t.cyc = Config.prefixedCycles ((encode i).getD 1 0))) ∧
    0 < t.cyc ∧ t.cyc % 4 = 0

/-! ### Memory, 20_memory.md -/

/-- What an address reads as outside FF00–FF7F, 20_memory.md R81, R82, R84, R86 to R89, R91, R92: no such read faults, and
the byte is the one of the array the rule names; the WRAM mirror reads the WRAM cell 0x2000 below. `d` stands for the bits
that are draws. -/
def Obligations.ReadsFollowTheMap : Prop :=
  ∀ (s : State) (addr : Word) (d : Byte),
    let n := addr.toNat
    (n < 0xFF00 ∨ 0xFF80 ≤ n → readFault addr s = none) ∧
    (n < 0x4000 → peek d addr s = s.cell (Key.rom n)) ∧
    (0x4000 ≤ n → n < 0x8000 → peek d addr s = s.cell (Key.rom (s.cart.romBank * 0x4000 + n - 0x4000))) ∧
    (0x8000 ≤ n → n < 0xA000 → peek d addr s =
      s.cell (Key.vram (if s.launch.colorMode then s.ppu.vbk else false) (n - 0x8000))) ∧
    (0xC000 ≤ n → n < 0xE000 → peek d addr s = s.cell n) ∧
    (0xE000 ≤ n → n < 0xFE00 → peek d addr s = peek d (addr - 0x2000#16) s) ∧
    (0xFE00 ≤ n → n < 0xFEA0 → peek d addr s = s.oamByte (n - 0xFE00)) ∧
    (0xFEA0 ≤ n → n < 0xFF00 → peek d addr s = 0x00#8) ∧
    (0xFF80 ≤ n → n < 0xFFFF → peek d addr s = s.cell n) ∧
    (n = 0xFFFF → (peek d addr s).extractLsb' 0 5 = s.ie ∧ (peek d addr s).extractLsb' 5 3 = d.extractLsb' 5 3)

/-- A store outside the I/O registers and the external RAM, 20_memory.md R83, R84, R86 to R89, R91, R92: it completes, the
byte reads back (through the WRAM mirror too), the hole ignores it, IE keeps its low five bits, no ROM byte changes, and the
store's frame holds. The premise on the memory's canonical form is kept by every step (`StepKeepsSound`). -/
def Obligations.WritesReadBack : Prop :=
  ∀ (s : State) (addr : Word) (v d : Byte), Memory.wf s.mem = true → restricted addr s = false →
    let n := addr.toNat
    (n < 0xA000 ∨ 0xC000 ≤ n ∧ n < 0xFF00 ∨ 0xFF80 ≤ n) →
    ∃ t, memWrite addr v s = .next t ∧
      (0x8000 ≤ n ∧ n < 0xFEA0 ∨ 0xFF80 ≤ n ∧ n < 0xFFFF → peek d addr t = v ∧ t = { s with mem := t.mem }) ∧
      (0xC000 ≤ n → n < 0xDE00 → peek d (addr + 0x2000#16) t = v) ∧
      (0xE000 ≤ n → n < 0xFE00 → peek d (addr - 0x2000#16) t = v) ∧
      (0xFEA0 ≤ n → n < 0xFF00 → t = s) ∧
      (n = 0xFFFF → t = { s with ie := v.extractLsb' 0 5 }) ∧
      (n < 0x8000 → t = { s with cart := { s.cart with mapper := t.cart.mapper } }) ∧
      (∀ off, t.cell (Key.rom off) = s.cell (Key.rom off)) ∧
      s.storeFrame t addr

/-- The control writes of the five bank controllers and the ROM bank each selects, 20_memory.md R83, R107 to R112. A
number `raw` of the MBC1 whose low five bits are 0 selects the next bank. -/
def Obligations.BankControllerWrites : Prop :=
  ∀ (s : State) (addr : Word) (v : Byte), restricted addr s = false → addr.toNat < 0x8000 →
    let n := addr.toNat
    let enable := decide (v.toNat % 16 = 10)
    ∃ t, memWrite addr v s = .next t ∧ t = { s with cart := { s.cart with mapper := t.cart.mapper } } ∧
      t.cart.romBank = t.cart.mapper.romBank % s.cart.romBanks ∧
      (s.cart.mapper = .romOnly → t.cart.mapper = .romOnly ∧ t.cart.mapper.romBank = 1) ∧
      (∀ low5 high2 mode en, s.cart.mapper = .mbc1 low5 high2 mode en →
        ∃ low5' high2' mode' en', t.cart.mapper = .mbc1 low5' high2' mode' en' ∧
          en' = (if n < 0x2000 then enable else en) ∧
          low5'.toNat = (if 0x2000 ≤ n ∧ n < 0x4000 then v.toNat % 32 else low5.toNat) ∧
          high2'.toNat = (if 0x4000 ≤ n ∧ n < 0x6000 then v.toNat % 4 else high2.toNat) ∧
          mode' = (if 0x6000 ≤ n then decide (v.toNat % 2 = 1) else mode) ∧
          let raw := if mode' then low5'.toNat else high2'.toNat * 32 + low5'.toNat
          t.cart.mapper.romBank = if raw % 32 = 0 then raw + 1 else raw) ∧
      (∀ bank en, s.cart.mapper = .mbc2 bank en →
        let sel := v.toNat % 16
        t.cart.mapper.romBank =
          (if n < 0x4000 ∧ n / 0x100 % 2 = 1 then (if sel = 0 then 1 else sel) else bank.toNat) ∧
        ∃ bank', t.cart.mapper = .mbc2 bank' (if n < 0x4000 ∧ n / 0x100 % 2 = 0 then enable else en)) ∧
      (∀ bank sel en rtc, s.cart.mapper = .mbc3 bank sel en rtc →
        let num := v.toNat % 32
        t.cart.mapper.romBank =
          (if 0x2000 ≤ n ∧ n < 0x4000 then (if num = 0 then 1 else num) else bank.toNat) ∧
        ∃ bank', t.cart.mapper =
          .mbc3 bank' (if 0x4000 ≤ n ∧ n < 0x6000 then v else sel) (if n < 0x2000 then enable else en) rtc) ∧
      (∀ bank ramBank en, s.cart.mapper = .mbc5 bank ramBank en →
        t.cart.mapper.romBank =
          (if 0x2000 ≤ n ∧ n < 0x3000 then bank.toNat / 256 * 256 + v.toNat
           else if 0x3000 ≤ n ∧ n < 0x4000 then v.toNat % 2 * 256 + bank.toNat % 256 else bank.toNat) ∧
        ∃ bank' ramBank', t.cart.mapper = .mbc5 bank' ramBank' (if n < 0x2000 then enable else en) ∧
          ramBank'.toNat = if 0x4000 ≤ n ∧ n < 0x6000 then v.toNat % 16 else ramBank.toNat)

/-- The external-RAM window, 20_memory.md R85, R107 to R111 and R112: what A000–BFFF reads and what a store there does, for
every controller. `dead`: a read is a draw and a write is ignored. `live bank`: the byte of the bank is read and stored,
where the RAM has one (a RAM smaller than 8 KB repeats). The byte of a larger RAM's absent bank is the model's choice
(log 17). -/
def Obligations.ExternalRamWindow : Prop :=
  ∀ (s : State) (addr : Word) (v d : Byte), Memory.wf s.mem = true → restricted addr s = false →
    0xA000 ≤ addr.toNat → addr.toNat < 0xC000 →
    let off := addr.toNat - 0xA000
    let size := s.cart.ramBytes
    let dead := peek d addr s = d ∧ memWrite addr v s = .next s
    let live := fun (bank : Nat) =>
      let k := bank * 0x2000 + off
      (size = 0 → dead) ∧
      (0 < size ∧ size < 0x2000 → peek d addr s = s.cell (Key.extRam (k % size))) ∧
      (0x2000 ≤ size ∧ k < size → peek d addr s = s.cell (Key.extRam k)) ∧
      (0x2000 ≤ size ∧ size ≤ k → dead) ∧
      (0 < size ∧ (size < 0x2000 ∨ k < size) →
        ∃ t, memWrite addr v s = .next t ∧ t = { s with mem := t.mem } ∧ peek d addr t = v ∧ s.storeFrame t addr)
    let clock := fun (get : Rtc → Byte) =>
      peek d addr s = get s.cart.mapper.rtc ∧
      ∃ t, memWrite addr v s = .next t ∧ t = { s with cart := { s.cart with mapper := t.cart.mapper } } ∧
        peek d addr t = v ∧ s.storeFrame t addr
    (s.cart.mapper = .romOnly → live 0) ∧
    (∀ low5 high2 mode en, s.cart.mapper = .mbc1 low5 high2 mode en →
      (en = false → dead) ∧ (en = true → live (if mode then high2.toNat else 0))) ∧
    (∀ bank en, s.cart.mapper = .mbc2 bank en →
      (en = false → dead) ∧
      (en = true → (peek d addr s).toNat = (s.cell (Key.mbc2 (off % 512))).toNat % 16 ∧
        ∃ t, memWrite addr v s = .next t ∧ t = { s with mem := t.mem } ∧ (peek d addr t).toNat = v.toNat % 16 ∧
          s.storeFrame t addr)) ∧
    (∀ bank sel en rtc, s.cart.mapper = .mbc3 bank sel en rtc →
      (en = false → dead) ∧
      (en = true →
        (sel.toNat < 4 → live sel.toNat) ∧ (sel = 0x08#8 → clock Rtc.seconds) ∧ (sel = 0x09#8 → clock Rtc.minutes) ∧
        (sel = 0x0A#8 → clock Rtc.hours) ∧ (sel = 0x0B#8 → clock Rtc.dayLow) ∧ (sel = 0x0C#8 → clock Rtc.dayHigh) ∧
        (4 ≤ sel.toNat ∧ sel.toNat < 8 ∨ 0x0C < sel.toNat → dead))) ∧
    (∀ bank ramBank en, s.cart.mapper = .mbc5 bank ramBank en →
      (en = false → dead) ∧ (en = true → live ramBank.toNat))

/-- The I/O addresses that exist, 20_memory.md R90, 60_exceptions.md R472, R490, R530: an unrestricted access of the core
faults with `UndefinedIo` exactly at an address of FF00–FF7F that the map does not name (the colour-only ones count on the
colour console alone), and a write to FF46 faults exactly for a page of 0xE0 or more; nothing else faults. -/
def Obligations.UndefinedIoFaults : Prop :=
  ∀ (s : State) (addr : Word) (v : Byte), restricted addr s = false →
    let n := addr.toNat
    let named := n < 0xFF00 ∨ 0xFF80 ≤ n ∨ n = 0xFF00 ∨ (0xFF04 ≤ n ∧ n ≤ 0xFF07) ∨ (0xFF0F ≤ n ∧ n ≤ 0xFF4B) ∨
      (s.launch.colorMode = true ∧
        (n = 0xFF4D ∨ n = 0xFF4F ∨ (0xFF51 ≤ n ∧ n ≤ 0xFF55) ∨ (0xFF68 ≤ n ∧ n ≤ 0xFF6B)))
    (named → ∃ b t, memRead addr s = .ok b t) ∧
    (¬ named → memRead addr s = .fault (.undefinedIo addr .read { s with fault := some (.undefinedIo addr .read) }) ∧
      memWrite addr v s = .fault (.undefinedIo addr .write { s with fault := some (.undefinedIo addr .write) })) ∧
    (named → ¬ (n = 0xFF46 ∧ 0xE0 ≤ v.toNat) → ∃ t, memWrite addr v s = .next t) ∧
    (n = 0xFF46 → 0xE0 ≤ v.toNat →
      memWrite addr v s = .fault (.dmaSourceUnmodelled v { s with fault := some (.dmaSourceUnmodelled v) }))

/-- The timer, interrupt, speed, joypad and DMA-trigger registers, 10_state.md R38, R45; 60_exceptions.md R481 to R483, R490,
R550: what a write leaves and what a read gives, `d` standing for the unused bits. -/
def Obligations.CoreRegistersReadBack : Prop :=
  ∀ (s : State) (v d : Byte),
    (poke 0xFF04 v s = { s with timer := { s.timer with div := 0, divSub := 0 } } ∧ peek d 0xFF04 s = s.timer.div) ∧
    (poke 0xFF05 v s = { s with timer := { s.timer with tima := v } } ∧ peek d 0xFF05 s = s.timer.tima) ∧
    (poke 0xFF06 v s = { s with timer := { s.timer with tma := v } } ∧ peek d 0xFF06 s = s.timer.tma) ∧
    (poke 0xFF07 v s = { s with timer := { s.timer with tac := v.extractLsb' 0 3 } } ∧
      peek d 0xFF07 s = (d &&& 0xF8#8 ||| s.timer.tac.setWidth 8)) ∧
    (poke 0xFF0F v s = { s with iflag := v.extractLsb' 0 5 } ∧
      peek d 0xFF0F s = (d &&& 0xE0#8 ||| s.iflag.setWidth 8)) ∧
    (poke 0xFF00 v s = { s with pad := { s.pad with select := v.extractLsb' 4 2 } } ∧
      peek d 0xFF00 s = (d &&& 0xC0#8 ||| s.pad.select.setWidth 8 <<< 4 ||| s.pad.lines.setWidth 8)) ∧
    (poke 0xFF46 v s = { s with dma := { s.dma with dmaReg := v, oam := some { page := v, index := 0 } } } ∧
      peek d 0xFF46 s = s.dma.dmaReg) ∧
    (s.launch.colorMode = true → poke 0xFF4D v s = { s with speedArmed := v.getLsbD 0 } ∧
      peek d 0xFF4D s = ((if s.doubleSpeed then 0x80#8 else 0) ||| (d &&& 0x7E#8) |||
        (if s.speedArmed then 0x01#8 else 0)))

/-- The PPU's registers, 60_exceptions.md R501 to R503, R513 to R516: what a write leaves and what a read gives. STAT keeps its
mode and coincidence bits, LY ignores a write, palette data goes through the index and moves it by one modulo 64 when bit 7
of the index register is set; a read moves nothing. LCDC's write is in `LcdSwitch`. A write of LYC recomputes the coincidence
at once, which is no stored bit; that a change from 0 to 1, with the LCD on, is kept for the PPU's next step is the model's
choice (log 14). -/
def Obligations.PpuRegistersReadBack : Prop :=
  ∀ (s : State) (v d : Byte),
    let mode := match s.ppu.mode with
      | .hblank => 0x00#8
      | .vblank => 0x01#8
      | .oamSearch => 0x02#8
      | .pixelTransfer => 0x03#8
    peek d 0xFF40 s = s.ppu.lcdc ∧
    (poke 0xFF41 v s = { s with ppu := { s.ppu with statEnables := v.extractLsb' 3 4 } } ∧
      peek d 0xFF41 s = (d &&& 0x80#8 ||| s.ppu.statEnables.setWidth 8 <<< 3 |||
        (if s.ppu.ly = s.ppu.lyc then 0x04#8 else 0) ||| mode)) ∧
    (poke 0xFF42 v s = { s with ppu := { s.ppu with scy := v } } ∧ peek d 0xFF42 s = s.ppu.scy) ∧
    (poke 0xFF43 v s = { s with ppu := { s.ppu with scx := v } } ∧ peek d 0xFF43 s = s.ppu.scx) ∧
    (poke 0xFF44 v s = s ∧ peek d 0xFF44 s = s.ppu.ly) ∧
    (poke 0xFF45 v s = { s with ppu := { s.ppu with lyc := v, lycRose := (poke 0xFF45 v s).ppu.lycRose } } ∧
      ((poke 0xFF45 v s).ppu.lycRose = true ↔
        s.ppu.lycRose = true ∨ (s.ppu.lcdOn = true ∧ s.ppu.ly ≠ s.ppu.lyc ∧ s.ppu.ly = v)) ∧
      peek d 0xFF45 s = s.ppu.lyc) ∧
    (poke 0xFF47 v s = { s with ppu := { s.ppu with bgp := v } } ∧ peek d 0xFF47 s = s.ppu.bgp) ∧
    (poke 0xFF48 v s = { s with ppu := { s.ppu with obp0 := v } } ∧ peek d 0xFF48 s = s.ppu.obp0) ∧
    (poke 0xFF49 v s = { s with ppu := { s.ppu with obp1 := v } } ∧ peek d 0xFF49 s = s.ppu.obp1) ∧
    (poke 0xFF4A v s = { s with ppu := { s.ppu with wy := v } } ∧ peek d 0xFF4A s = s.ppu.wy) ∧
    (poke 0xFF4B v s = { s with ppu := { s.ppu with wx := v } } ∧ peek d 0xFF4B s = s.ppu.wx) ∧
    (s.launch.colorMode = true →
      (poke 0xFF4F v s = { s with ppu := { s.ppu with vbk := v.getLsbD 0 } } ∧
        peek d 0xFF4F s = (d &&& 0xFE#8 ||| if s.ppu.vbk then 0x01#8 else 0)) ∧
      (poke 0xFF68 v s = { s with ppu := { s.ppu with bcps := { index := v.extractLsb' 0 6, auto := v.getLsbD 7 } } } ∧
        peek d 0xFF68 s = ((if s.ppu.bcps.auto then 0x80#8 else 0) ||| (d &&& 0x40#8) ||| s.ppu.bcps.index.setWidth 8)) ∧
      (poke 0xFF6A v s = { s with ppu := { s.ppu with ocps := { index := v.extractLsb' 0 6, auto := v.getLsbD 7 } } } ∧
        peek d 0xFF6A s = ((if s.ppu.ocps.auto then 0x80#8 else 0) ||| (d &&& 0x40#8) ||| s.ppu.ocps.index.setWidth 8)) ∧
      (peek d 0xFF69 s = s.cell (Key.bgPal s.ppu.bcps.index.toNat) ∧
        (Memory.wf s.mem = true → (poke 0xFF69 v s).cell (Key.bgPal s.ppu.bcps.index.toNat) = v) ∧
        (∀ key, key ≠ Key.bgPal s.ppu.bcps.index.toNat → (poke 0xFF69 v s).cell key = s.cell key) ∧
        (poke 0xFF69 v s).ppu.bcps.index.toNat =
          (if s.ppu.bcps.auto then (s.ppu.bcps.index.toNat + 1) % 64 else s.ppu.bcps.index.toNat) ∧
        (poke 0xFF69 v s).ppu.bcps.auto = s.ppu.bcps.auto) ∧
      (peek d 0xFF6B s = s.cell (Key.objPal s.ppu.ocps.index.toNat) ∧
        (Memory.wf s.mem = true → (poke 0xFF6B v s).cell (Key.objPal s.ppu.ocps.index.toNat) = v) ∧
        (∀ key, key ≠ Key.objPal s.ppu.ocps.index.toNat → (poke 0xFF6B v s).cell key = s.cell key) ∧
        (poke 0xFF6B v s).ppu.ocps.index.toNat =
          (if s.ppu.ocps.auto then (s.ppu.ocps.index.toNat + 1) % 64 else s.ppu.ocps.index.toNat) ∧
        (poke 0xFF6B v s).ppu.ocps.auto = s.ppu.ocps.auto))

/-- The access restrictions, 20_memory.md R116: under `hwAccessRestrictions` a read by the core outside FF80–FFFE during OAM
DMA, of OAM in OamSearch or PixelTransfer, and of VRAM in PixelTransfer is a draw, and such a write does nothing; every other
access, and every access without that parameter, is the memory map's: a write to FF46 of a page below 0xE0 starts the OAM
transfer. That a blocked access goes on so also where it would fault unblocked (an undefined address, FF46 with a page of
0xE0 or more) is the model's choice (log 20). -/
def Obligations.RestrictedAccesses : Prop :=
  ∀ (s : State) (addr : Word) (v : Byte),
    let n := addr.toNat
    let blocked := (s.dma.oam ≠ none ∧ ¬ (0xFF80 ≤ n ∧ n ≤ 0xFFFE)) ∨
      (0xFE00 ≤ n ∧ n ≤ 0xFE9F ∧ (s.ppu.mode = .oamSearch ∨ s.ppu.mode = .pixelTransfer)) ∨
      (0x8000 ≤ n ∧ n ≤ 0x9FFF ∧ s.ppu.mode = .pixelTransfer)
    (s.launch.hwAccessRestrictions = true ∧ blocked →
      memRead addr s = .ok (Config.draw s.draws) s.countRead ∧ memWrite addr v s = .next s) ∧
    (s.launch.hwAccessRestrictions = false ∨ ¬ blocked →
      (locate s addr ≠ .undefined → memRead addr s = .ok (peek (Config.draw s.draws) addr s) s.countRead) ∧
      (locate s addr ≠ .undefined → locate s addr ≠ .io .dma → memWrite addr v s = .next (poke addr v s)) ∧
      (addr = 0xFF46#16 → v.toNat < 0xE0 →
        memWrite addr v s = .next (poke 0xFF46 v s) ∧
        memWrite addr v s =
          .next { s with dma := { s.dma with dmaReg := v, oam := some { page := v, index := 0 } } }))

/-! ### Timer, 60_exceptions.md section 4 -/

/-- After `n` timer steps, 60_exceptions.md R481, R482, R484, R485: from sub-counters 0, DIV has advanced by `n / 256` whatever
TAC holds, and TIMA by `n / period`, overflows included (with TMA = 0), each modulo 256; a disabled TIMA stands still. -/
def Obligations.TimerRate : Prop :=
  ∀ (t : Timer) (n : Nat),
    let u := Timer.step^[n] t
    let period := [1024, 16, 64, 256].getD (t.tac.toNat % 4) 0
    (t.divSub = 0#8 → u.div.toNat = (t.div.toNat + n / 256) % 256 ∧ u.divSub.toNat = n % 256) ∧
    (t.tac.getLsbD 2 = false → u.tima = t.tima ∧ u.timaSub = t.timaSub) ∧
    (t.tac.getLsbD 2 = true → t.timaSub = 0#10 → t.tma = 0#8 →
      u.tima.toNat = (t.tima.toNat + n / period) % 256 ∧ u.timaSub.toNat = n % period) ∧
    u.tac = t.tac ∧ u.tma = t.tma

/-- An overflow of TIMA reloads it from TMA and requests the timer interrupt, once, in the same timer step
(60_exceptions.md R485); a step without an overflow requests nothing. -/
def Obligations.TimerOverflow : Prop :=
  ∀ s : State,
    let period := [1024, 16, 64, 256].getD (s.timer.tac.toNat % 4) 0
    let overflow := 4 ≤ s.timer.tac.toNat ∧ period ≤ s.timer.timaSub.toNat + 1 ∧ s.timer.tima = 0xFF#8
    (overflow → (timerStep s).timer.tima = s.timer.tma ∧ (timerStep s).iflag = s.iflag ||| 0b00100#5 ∧
      (timerStep s).timer.timaSub = 0#10) ∧
    (¬ overflow → (timerStep s).iflag = s.iflag ∧
      ((timerStep s).timer.tima = s.timer.tima ∨ (timerStep s).timer.tima.toNat = s.timer.tima.toNat + 1)) ∧
    timerStep s = { s with timer := (timerStep s).timer, iflag := (timerStep s).iflag }

/-! ### DMA, 60_exceptions.md section 5 -/

/-- OAM DMA copies 160 bytes in 160 steps, 60_exceptions.md R488, R489, R491, R492: the transfer is busy before and after each of
the first 159 steps and not after the last; the bytes of OAM are then those of the source page, and no other cell has
changed. The source reads as `State.sourceByte` says, `Config.draw (s.draws + i)` standing for its open bits: that of the
restrictions only the PPU's bind the DMA engine is the model's reading (log 20). -/
def Obligations.OamDmaCopies160 : Prop :=
  ∀ (s : State) (page : Byte), Memory.wf s.mem = true → page.toNat < 0xE0 →
    s.dma.oam = some { page := page, index := 0 } → s.dma.vram = none →
    (∀ k, k < 160 → ∃ t, dmaSteps k s = .next t ∧ ramBusy t = true) ∧
    ∃ t, dmaSteps 160 s = .next t ∧ ramBusy t = false ∧
      (∀ i, i < 160 → t.oamByte i = s.sourceByte (Config.draw (s.draws + i)) (page ++ BitVec.ofNat 8 i)) ∧
      (∀ key, (∀ i, i < 160 → key ≠ Key.oam i) → t.cell key = s.cell key) ∧
      t = { s with mem := t.mem, dma := { s.dma with oam := none }, draws := s.draws + 160 }

/-- The VRAM DMA registers of the colour console, 60_exceptions.md R493, R496: the four latches, what a write to HDMA5 starts
or stops, and what it reads as, also within a line; a later write to a latch leaves a running transfer alone. That a latch
keeps its whole byte, the ignored bits too, and that a write of HDMA5 while a transfer is active starts anew unless it stops
an HBlank-gated one, are the model's choices (log 21), and so is that a transfer starts with line count 0 (log 35). -/
def Obligations.VramDmaRegisters : Prop :=
  ∀ (s : State) (v d : Byte), s.launch.colorMode = true →
    poke 0xFF51 v s = { s with dma := { s.dma with hdma1 := v } } ∧
    poke 0xFF52 v s = { s with dma := { s.dma with hdma2 := v } } ∧
    poke 0xFF53 v s = { s with dma := { s.dma with hdma3 := v } } ∧
    poke 0xFF54 v s = { s with dma := { s.dma with hdma4 := v } } ∧
    peek d 0xFF51 s = d ∧ peek d 0xFF52 s = d ∧ peek d 0xFF53 s = d ∧ peek d 0xFF54 s = d ∧
    (s.dma.vram = none → peek d 0xFF55 s = 0xFF#8) ∧
    (∀ x, s.dma.vram = some x → 0 < x.remaining.toNat → x.remaining.toNat ≤ 0x800 → x.remaining.toNat % 16 = 0 →
      (peek d 0xFF55 s).toNat = x.remaining.toNat / 16 - 1) ∧
    (∀ x, s.dma.vram = some x → (peek d 0xFF55 s).toNat = (x.remaining.toNat / 16 + 127) % 128) ∧
    (∀ x, s.dma.vram = some x → x.kind = .hblank → v.toNat < 0x80 →
      poke 0xFF55 v s = { s with dma := { s.dma with vram := none } }) ∧
    ((∀ x, s.dma.vram = some x → x.kind = .hblank → 0x80 ≤ v.toNat) →
      ∃ x, poke 0xFF55 v s = { s with dma := { s.dma with vram := some x } } ∧
        x.kind = (if v.toNat < 0x80 then .general else .hblank) ∧
        x.src.toNat = s.dma.hdma1.toNat * 256 + s.dma.hdma2.toNat / 16 * 16 ∧
        x.dst.toNat = 0x8000 + s.dma.hdma3.toNat % 32 * 256 + s.dma.hdma4.toNat / 16 * 16 ∧
        x.remaining.toNat = (v.toNat % 128 + 1) * 16 ∧ x.lineCount = 0)

/-- A general-purpose VRAM transfer is one burst, 60_exceptions.md R489, R494, R497: in the one DMA step after its start the bytes
are copied in order, from a source outside VRAM, until none remains or the destination would be above 0x9FFF, and the
transfer is over. `n` is the number of bytes. That the source address wraps, that the bank is VBK's when a byte is copied, and
that no undefined source is read through are the model's choices (log 21), and so is that of the restrictions only the PPU's
bind the DMA engine (log 20). -/
def Obligations.GeneralVramDma : Prop :=
  ∀ (s : State) (x : VramXfer), Memory.wf s.mem = true → s.dma.oam = none → s.dma.vram = some x → x.kind = .general →
    0 < x.remaining.toNat → 0x8000 ≤ x.dst.toNat → x.dst.toNat < 0xA000 →
    let n := min x.remaining.toNat (0xA000 - x.dst.toNat)
    (∀ i, i < n → locate s (x.src + BitVec.ofNat 16 i) ≠ .undefined ∧
      ¬ (0x8000 ≤ (x.src + BitVec.ofNat 16 i).toNat ∧ (x.src + BitVec.ofNat 16 i).toNat < 0xA000) ∧
      x.src + BitVec.ofNat 16 i ≠ 0xFF55#16) →
    ∃ t, dmaStep s = .next t ∧
      (∀ i, i < n → t.cell (Key.vram s.vramBank (x.dst.toNat - 0x8000 + i)) =
        s.sourceByte (Config.draw (s.draws + i)) (x.src + BitVec.ofNat 16 i)) ∧
      (∀ key, (∀ i, i < n → key ≠ Key.vram s.vramBank (x.dst.toNat - 0x8000 + i)) → t.cell key = s.cell key) ∧
      t = { s with mem := t.mem, dma := { s.dma with vram := none }, draws := s.draws + n }

/-- One VRAM DMA step, byte by byte, 60_exceptions.md R489, R494, R495, R497, R472. `copied` is the state after one byte. A
general-purpose transfer copies one byte and goes on in the same step, whatever its source; an HBlank-gated one copies one byte
in HBlank with the LCD on while the line's quota of 16 lasts, stands still in HBlank otherwise, and has a new quota outside
HBlank. The model's choices in it are: that the bank is VBK's when the byte is copied, that the source address wraps, and that
an undefined source faults (log 21); that every DMA step outside HBlank gives the new quota (log 22); and that of the
restrictions only the PPU's bind the DMA engine (log 20). -/
def Obligations.VramDmaStep : Prop :=
  ∀ (s : State) (x : VramXfer), s.dma.vram = some x →
    let ended := x.remaining = 0#16 ∨ 0x9FFF < x.dst.toNat
    let stopped := { s with dma := { s.dma with vram := none } }
    let next := { x with src := x.src + 1, dst := x.dst + 1, remaining := x.remaining - 1,
                         lineCount := if x.kind = .hblank then x.lineCount + 1 else x.lineCount }
    let copied := { s with
      mem := Memory.write s.mem (Key.vram s.vramBank (x.dst.toNat - 0x8000)) (s.sourceByte (Config.draw s.draws) x.src)
      draws := s.draws + 1
      dma := { s.dma with vram := if x.remaining = 1#16 then none else some next } }
    let faulted := .fault (.undefinedIo x.src .read { s with fault := some (.undefinedIo x.src .read) })
    (x.kind = .general →
      (ended → vramDmaStep s = .next stopped) ∧
      (¬ ended → locate s x.src = .undefined → vramDmaStep s = faulted) ∧
      (¬ ended → locate s x.src ≠ .undefined → vramDmaStep s = vramDmaStep copied)) ∧
    (x.kind = .hblank →
      let runs := s.ppu.mode = .hblank ∧ s.ppu.lcdOn = true ∧ x.lineCount < 16
      (runs → ended → vramDmaStep s = .next stopped) ∧
      (runs → ¬ ended → locate s x.src = .undefined → vramDmaStep s = faulted) ∧
      (runs → ¬ ended → locate s x.src ≠ .undefined → vramDmaStep s = .next copied) ∧
      (¬ runs → s.ppu.mode = .hblank → vramDmaStep s = .next s) ∧
      (s.ppu.mode ≠ .hblank →
        vramDmaStep s = .next { s with dma := { s.dma with vram := some { x with lineCount := 0 } } }))

/-! ### PPU, APU and joypad, 60_exceptions.md sections 6 to 8 -/

/-- The PPU's position and mode after `n` steps, 60_exceptions.md R500, R504, R505, R507: with the LCD on the position
`LY * 456 + dot` advances by one a step modulo 70224, each wrap hands a frame of the announced size 160 by 144 to the host, and
the mode is the one of the position: 80 dots of OamSearch, at least 168 and at most 291 of PixelTransfer, HBlank to 456, and
VBlank from line 144. That the size is announced with each frame, and the counter of frames, are the model's choices (logs 38,
16). -/
def Obligations.PpuPosition : Prop :=
  ∀ (s : State) (n : Nat), s.ppu.sound → s.ppu.lcdOn = true →
    let p := s.ppu.ly.toNat * 456 + s.ppu.dot + n
    let t := ppuStep^[n] s
    t.ppu.ly.toNat = p % 70224 / 456 ∧ t.ppu.dot = p % 456 ∧ t.sched.frames = s.sched.frames + p / 70224 ∧
    t.sched.announced = (if p < 70224 then s.sched.announced else some { width := 160, height := 144 }) ∧
    t.ppu.sound ∧
    (144 ≤ t.ppu.ly.toNat ↔ t.ppu.mode = .vblank) ∧
    (t.ppu.ly.toNat < 144 →
      (t.ppu.dot < 80 ↔ t.ppu.mode = .oamSearch) ∧
      (80 ≤ t.ppu.dot → t.ppu.dot < 248 → t.ppu.mode = .pixelTransfer) ∧
      (248 ≤ t.ppu.dot → t.ppu.dot < 371 → t.ppu.mode = .pixelTransfer ∨ t.ppu.mode = .hblank) ∧
      (371 ≤ t.ppu.dot → t.ppu.mode = .hblank)) ∧
    t = { s with ppu := t.ppu, iflag := t.iflag,
                 sched := { s.sched with frames := t.sched.frames, announced := t.sched.announced } }

/-- The PPU's interrupts in one step, 60_exceptions.md R503, R506, R518: bit 0 is requested exactly when LY becomes 144; bit 1
when the mode changes into HBlank, VBlank or OamSearch with its enable set, or, under `statLycInterrupt` with the enable of
bit 6 set, when the coincidence changes from 0 to 1, in this step or at a write of LYC before it; no other bit changes, and
nothing is requested with the LCD off. That the change at a write is requested with the next step is the model's choice
(log 14). -/
def Obligations.PpuInterrupts : Prop :=
  ∀ s : State,
    let t := ppuStep s
    let into := fun (m : PpuMode) => s.ppu.mode ≠ m ∧ t.ppu.mode = m
    let enable := fun k => s.ppu.statEnables.getLsbD k = true
    let coincides := s.ppu.lycRose = true ∨ (s.ppu.ly ≠ s.ppu.lyc ∧ t.ppu.ly = t.ppu.lyc)
    let stat := (into .hblank ∧ enable 0) ∨ (into .vblank ∧ enable 1) ∨ (into .oamSearch ∧ enable 2) ∨
      (s.launch.statLycInterrupt = true ∧ enable 3 ∧ coincides)
    (s.ppu.sound → (t.iflag.getLsbD 0 = true ↔
      s.iflag.getLsbD 0 = true ∨ (s.ppu.lcdOn = true ∧ s.ppu.ly.toNat = 143 ∧ s.ppu.dot = 455))) ∧
    (t.iflag.getLsbD 1 = true ↔ s.iflag.getLsbD 1 = true ∨ (s.ppu.lcdOn = true ∧ stat)) ∧
    (∀ k, 2 ≤ k → t.iflag.getLsbD k = s.iflag.getLsbD k) ∧
    t.ppu.lycRose = false ∧ t.ppu.lyc = s.ppu.lyc ∧
    (s.ppu.lcdOn = false → t = { s with ppu := { s.ppu with lycRose := false } })

/-- Switching the LCD, 60_exceptions.md R501, R518: clearing LCDC bit 7 stops the PPU at line 0, dot 0, mode HBlank, and
clears the host's picture once, of the announced size; setting it starts line 0, dot 0, in OamSearch; any other write changes
LCDC alone. That the change of mode at the write itself requests nothing (log 15), that the size is announced with the cleared
picture (log 38), and the counter of cleared pictures (log 16) are the model's choices. -/
def Obligations.LcdSwitch : Prop :=
  ∀ (s : State) (v : Byte),
    let t := poke 0xFF40 v s
    t.ppu.lcdc = v ∧ t.iflag = s.iflag ∧
    (v.toNat < 0x80 → t.ppu.ly = 0#8 ∧ t.ppu.dot = 0 ∧ t.ppu.mode = .hblank ∧
      t.sched.clears = s.sched.clears + (if 0x80 ≤ s.ppu.lcdc.toNat then 1 else 0) ∧
      t.sched.announced = (if 0x80 ≤ s.ppu.lcdc.toNat then some { width := 160, height := 144 } else s.sched.announced)) ∧
    (0x80 ≤ v.toNat → t.sched = s.sched) ∧
    (0x80 ≤ v.toNat → s.ppu.lcdc.toNat < 0x80 → t.ppu.ly = 0#8 ∧ t.ppu.dot = 0 ∧ t.ppu.mode = .oamSearch) ∧
    (0x80 ≤ v.toNat → 0x80 ≤ s.ppu.lcdc.toNat → t = { s with ppu := { s.ppu with lcdc := v } }) ∧
    t = { s with ppu := { s.ppu with lcdc := v, ly := t.ppu.ly, dot := t.ppu.dot, mode := t.ppu.mode },
                 sched := { s.sched with clears := t.sched.clears, announced := t.sched.announced } }

/-- The OAM search, 60_exceptions.md R508: the kept sprites are at most ten, in ascending OAM index, each on the line; a
sprite on the line is left out only when ten with a lower index are kept; and the tile-byte fetch unit is ready at the sixth
cycle and not before (R510). -/
def Obligations.OamSearchAndFetchUnit : Prop :=
  (∀ (oam : Nat → Byte) (ly : Nat) (lcdc : Byte),
    let height := if lcdc.toNat / 4 % 2 = 1 then 16 else 8
    let onLine := fun i => (oam (4 * i)).toNat ≤ ly + 16 ∧ ly + 16 < (oam (4 * i)).toNat + height ∧
      1 ≤ (oam (4 * i + 1)).toNat ∧ (oam (4 * i + 1)).toNat ≤ 168
    let kept := (oamSearch oam ly lcdc).map Sprite.index
    kept.length ≤ 10 ∧ kept.Pairwise (· < ·) ∧
    (∀ i, i ∈ kept → i < 40 ∧ onLine i) ∧
    (∀ i, i < 40 → onLine i → i ∉ kept → kept.length = 10 ∧ ∀ j, j ∈ kept → j < i)) ∧
  (∀ n, (TileFetch.step^[n] TileFetch.start).ready = decide (6 ≤ n))

/-- The sound registers, 60_exceptions.md R530 to R533: wave RAM reads back, NR52 shows its power bit, every other address a
draw; a write stores the byte; with the power off a batch steps no channel, and it steps none that the channel-enable mask or
the stereo-panning mask gates off, nor changes a register; and a square channel's frequency register reads back from its bytes
and from its frequency. Which bits of NR52 and NR51 are a channel's is the model's choice (log 34). -/
def Obligations.ApuRegisters : Prop :=
  (∀ (s : State) (addr : Word) (v d : Byte), 0xFF10 ≤ addr.toNat → addr.toNat ≤ 0xFF3F →
    (0xFF30 ≤ addr.toNat → Memory.wf s.mem = true →
      peek d addr (poke addr v s) = v ∧ poke addr v s = { s with mem := (poke addr v s).mem }) ∧
    (addr.toNat = 0xFF26 → peek d addr s = (s.apu.nr52 &&& 0x80#8 ||| d &&& 0x7F#8) ∧
      poke addr v s = { s with apu := { s.apu with nr52 := v } }) ∧
    (addr.toNat < 0xFF30 → addr.toNat ≠ 0xFF26 → peek d addr s = d)) ∧
  (∀ (s : State) (v : Byte),
    (poke 0xFF10 v s).apu.nr10 = v ∧ (poke 0xFF11 v s).apu.nr11 = v ∧ (poke 0xFF12 v s).apu.nr12 = v ∧
    (poke 0xFF13 v s).apu.nr13 = v ∧ (poke 0xFF14 v s).apu.nr14 = v ∧ (poke 0xFF16 v s).apu.nr21 = v ∧
    (poke 0xFF17 v s).apu.nr22 = v ∧ (poke 0xFF18 v s).apu.nr23 = v ∧ (poke 0xFF19 v s).apu.nr24 = v ∧
    (poke 0xFF1A v s).apu.nr30 = v ∧ (poke 0xFF1B v s).apu.nr31 = v ∧ (poke 0xFF1C v s).apu.nr32 = v ∧
    (poke 0xFF1D v s).apu.nr33 = v ∧ (poke 0xFF1E v s).apu.nr34 = v ∧ (poke 0xFF20 v s).apu.nr41 = v ∧
    (poke 0xFF21 v s).apu.nr42 = v ∧ (poke 0xFF22 v s).apu.nr43 = v ∧ (poke 0xFF23 v s).apu.nr44 = v ∧
    (poke 0xFF24 v s).apu.nr50 = v ∧ (poke 0xFF25 v s).apu.nr51 = v) ∧
  (∀ (u : Apu) (n : Nat),
    let gated := fun k => u.nr52.getLsbD 7 = false ∨ u.nr52.getLsbD k = false ∨
      (u.nr51.getLsbD k = false ∧ u.nr51.getLsbD (k + 4) = false)
    (u.nr52.getLsbD 7 = false → u.batch n = u) ∧
    (gated 0 → (u.batch n).ch1 = u.ch1) ∧ (gated 1 → (u.batch n).ch2 = u.ch2) ∧
    (gated 2 → (u.batch n).ch3 = u.ch3) ∧ (gated 3 → (u.batch n).ch4 = u.ch4) ∧
    u.batch n = { u with ch1 := (u.batch n).ch1, ch2 := (u.batch n).ch2, ch3 := (u.batch n).ch3, ch4 := (u.batch n).ch4 }) ∧
  (∀ x : BitVec 11, freqOfBytes (freqBytes x).1 (freqBytes x).2 = x ∧ freqRegister (freqDenominator x) = x)

/-- The joypad, 60_exceptions.md R550 to R553: line k is low exactly when a selected group has its button k pressed, and the
sampling requests interrupt 4 exactly when some line went from 1 to 0 since the last one; a step begins with the host's next
sample, and after the last one the buttons stay (the model's choice, log 7). -/
def Obligations.JoypadLinesAndInterrupt : Prop :=
  ∀ s : State,
    let p := s.pad
    let directions := [p.buttons.right, p.buttons.left, p.buttons.up, p.buttons.down]
    let actions := [p.buttons.a, p.buttons.b, p.buttons.select, p.buttons.start]
    let t := padStep s
    (∀ k, k < 4 → p.lines.getLsbD k = !((!p.select.getLsbD 0 && directions.getD k false) ||
      (!p.select.getLsbD 1 && actions.getD k false))) ∧
    (t.iflag.getLsbD 4 = true ↔ s.iflag.getLsbD 4 = true ∨
      ∃ k, k < 4 ∧ p.prevLines.getLsbD k = true ∧ p.lines.getLsbD k = false) ∧
    (∀ k, k ≠ 4 → t.iflag.getLsbD k = s.iflag.getLsbD k) ∧
    t = { s with iflag := t.iflag, pad := { p with prevLines := p.lines } } ∧
    (p.inputs = [] → (beginStep s).pad = p) ∧
    (∀ b rest, p.inputs = b :: rest → (beginStep s).pad = { p with buttons := b, inputs := rest })

/-! ### The scheduler, 60_exceptions.md section 9 -/

/-- The device phase, 60_exceptions.md R457, R488, R560, R561, R566: after the joypad's sampling, `n` device cycles one after
another, each the PPU's step, the timer's and the DMA engine's in this order, `n` being the step's cycles, halved when the step
began in double speed; a fault of the DMA ends it. So the timer, the PPU's position and a running OAM transfer have advanced
by `n`; no request is withdrawn, and the core's registers, IE, the cartridge and the sound registers are as before. Where the
sampling stands is the model's choice (log 7). -/
def Obligations.DevicePhaseStepsEachDevice : Prop :=
  ∀ (speed0 : Bool) (s : State),
    let n := if speed0 then s.cyc / 2 else s.cyc
    devicePhase speed0 s = deviceCycles n (padStep s) ∧
    (∀ u, deviceCycle u = dmaStep (timerStep (ppuStep u))) ∧
    (∀ t, devicePhase speed0 s = .next t ↔
      ∃ u : Nat → State, u 0 = padStep s ∧ u n = t ∧ ∀ c, c < n → deviceCycle (u c) = .next (u (c + 1))) ∧
    (∀ f, devicePhase speed0 s = .fault f ↔
      ∃ (u : Nat → State) (k : Nat), k < n ∧ u 0 = padStep s ∧ (∀ c, c < k → deviceCycle (u c) = .next (u (c + 1))) ∧
        deviceCycle (u k) = .fault f) ∧
    ∀ t, devicePhase speed0 s = .next t →
      t.timer = Timer.step^[n] s.timer ∧
      (s.ppu.sound → s.ppu.lcdOn = true →
        t.ppu.ly.toNat * 456 + t.ppu.dot = (s.ppu.ly.toNat * 456 + s.ppu.dot + n) % 70224) ∧
      (s.ppu.lcdOn = false → t.ppu.ly = s.ppu.ly ∧ t.ppu.dot = s.ppu.dot ∧ t.ppu.mode = s.ppu.mode) ∧
      (s.dma.oam = none → t.dma.oam = none) ∧
      (∀ x, s.dma.oam = some x → x.index < 160 →
        t.dma.oam = if x.index + n < 160 then some { page := x.page, index := x.index + n } else none) ∧
      (∀ k, s.iflag.getLsbD k = true → t.iflag.getLsbD k = true) ∧ t.iflag.getLsbD 3 = s.iflag.getLsbD 3 ∧
      t = { s with timer := t.timer, ppu := t.ppu, iflag := t.iflag, dma := t.dma, mem := t.mem,
                   pad := { s.pad with prevLines := s.pad.lines }, draws := t.draws,
                   sched := { s.sched with frames := t.sched.frames, announced := t.sched.announced } }

/-- Frame accounting, 60_exceptions.md R562, R531: a step's cycles are added; at the budget (70224, or 140448 in double speed)
the APU is called once with the sum and the sum starts again; nothing the core reads changes. Which channels that call steps
is in `ApuRegisters`. The model's choices in it are: that the budget goes by the speed bit as it is at the accounting, after
the instruction (log 28), and the counter `apuBatches` that stands for the call (log 16). -/
def Obligations.FrameAccounting : Prop :=
  ∀ s : State,
    let total := s.sched.frameCycles + s.cyc
    let budget := if s.doubleSpeed then 140448 else 70224
    let t := accountFrame s
    (total < budget → t = { s with sched := { s.sched with frameCycles := total } }) ∧
    (budget ≤ total → t = { s with apu := s.apu.batch total,
                                   sched := { s.sched with frameCycles := 0, apuBatches := s.sched.apuBatches + 1 } }) ∧
    t.sched.frameCycles < budget ∧ ∀ d b, peek d b t = peek d b s

/-! ### Invariants -/

/-- A step keeps a sound state sound: the memory's canonical form, the PPU's counters and mode (60_exceptions.md R500, R504,
R505, R518), the transfers' bounds (R490, R491, R493, R497), the colour-only state on the monochrome console (R472,
10_state.md R43, R44), the HALT bug's latch (R48), the remapped bank numbers (20_memory.md R110, R111). -/
def Obligations.StepKeepsSound : Prop :=
  ∀ s t : State, s.sound → step s = .next t → t.sound

/-- The machine after reset is sound, and so is every launched one (70_reset_and_hazards.md R600 to R605). -/
def Obligations.ResetIsSound : Prop :=
  State.reset.sound ∧ ∀ x : LaunchInput, (launchState x).sound

/-- What no step changes: the launch parameters (10_state.md R50), every byte of the ROM image (20_memory.md R83), the kind of
bank controller, the number of ROM banks and the size of external RAM (R106, R107). The premise is kept by every step
(`StepKeepsSound`). -/
def Obligations.StepKeepsConstants : Prop :=
  ∀ s t : State, s.sound → step s = .next t →
    t.launch = s.launch ∧ (∀ off, t.cell (Key.rom off) = s.cell (Key.rom off)) ∧
    t.cart.romBanks = s.cart.romBanks ∧ t.cart.ramBytes = s.cart.ramBytes ∧
    (s.cart.mapper = .romOnly ↔ t.cart.mapper = .romOnly) ∧
    ((∃ a b c d, s.cart.mapper = .mbc1 a b c d) ↔ ∃ a b c d, t.cart.mapper = .mbc1 a b c d) ∧
    ((∃ a b, s.cart.mapper = .mbc2 a b) ↔ ∃ a b, t.cart.mapper = .mbc2 a b) ∧
    ((∃ a b c d, s.cart.mapper = .mbc3 a b c d) ↔ ∃ a b c d, t.cart.mapper = .mbc3 a b c d) ∧
    ((∃ a b c, s.cart.mapper = .mbc5 a b c) ↔ ∃ a b c, t.cart.mapper = .mbc5 a b c)
end

