-- ==== Sys2Proof/Laws/Memory.lean ====
section
/-! SUPPORT. The laws of the storage: a read gives the last value written under its key, a write leaves every other key
alone, and every write keeps the canonical form. -/

namespace Sys2Proof.Machine

theorem Memory.wfFrom_mono {low low' : Nat} {mem : List Host.Cell} (h : low' ≤ low) (w : Memory.wfFrom low mem = true) :
    Memory.wfFrom low' mem = true := by
  cases mem with
  | nil => rfl
  | cons cell rest =>
    simp only [Memory.wfFrom, Bool.and_eq_true, decide_eq_true_eq] at w ⊢
    exact ⟨⟨by omega, w.1.2⟩, w.2⟩

/-- A key below every listed one is unlisted. -/
theorem Memory.read_below {low key : Nat} {mem : List Host.Cell} (w : Memory.wfFrom low mem = true) (h : key < low) :
    Memory.read mem key = Memory.unlisted := by
  induction mem generalizing low with
  | nil => rfl
  | cons cell rest ih =>
    simp only [Memory.wfFrom, Bool.and_eq_true, decide_eq_true_eq] at w
    simp only [Memory.read]
    rw [if_neg (by omega)]
    exact ih w.2 (by omega)

theorem Memory.wfFrom_cons {low : Nat} {cell : Host.Cell} {rest : List Host.Cell} (h : low ≤ cell.1)
    (w : Memory.wfFrom (cell.1 + 1) rest = true) : Memory.wfFrom low (Memory.cons cell rest) = true := by
  unfold Memory.cons
  split
  · exact Memory.wfFrom_mono (by omega) w
  · rename_i hne
    simp only [Memory.wfFrom, Bool.and_eq_true, decide_eq_true_eq]
    exact ⟨⟨h, hne⟩, w⟩

theorem Memory.wfFrom_write {low : Nat} {mem : List Host.Cell} {key : Nat} (v : Byte) (h : low ≤ key)
    (w : Memory.wfFrom low mem = true) : Memory.wfFrom low (Memory.write mem key v) = true := by
  induction mem generalizing low with
  | nil => exact Memory.wfFrom_cons h rfl
  | cons cell rest ih =>
    have w0 := w
    simp only [Memory.wfFrom, Bool.and_eq_true, decide_eq_true_eq] at w
    simp only [Memory.write]
    split
    · apply Memory.wfFrom_cons h
      simp only [Memory.wfFrom, Bool.and_eq_true, decide_eq_true_eq]
      exact ⟨⟨by omega, w.1.2⟩, w.2⟩
    · split
      · rename_i heq
        subst heq
        exact Memory.wfFrom_cons h w.2
      · simp only [Memory.wfFrom, Bool.and_eq_true, decide_eq_true_eq]
        exact ⟨⟨w.1.1, w.1.2⟩, ih (by omega) w.2⟩

/-- Every write keeps the canonical form. -/
theorem Memory.wf_write {mem : List Host.Cell} (key : Nat) (v : Byte) (w : Memory.wf mem = true) :
    Memory.wf (Memory.write mem key v) = true := Memory.wfFrom_write v (Nat.zero_le key) w

theorem Memory.read_cons_same {key : Nat} {v : Byte} {rest : List Host.Cell}
    (h : Memory.read rest key = Memory.unlisted) : Memory.read (Memory.cons (key, v) rest) key = v := by
  unfold Memory.cons
  split
  · rename_i hv
    exact h.trans hv.symm
  · simp [Memory.read]

theorem Memory.read_cons_other {key key' : Nat} {v : Byte} {rest : List Host.Cell} (h : key' ≠ key) :
    Memory.read (Memory.cons (key, v) rest) key' = Memory.read rest key' := by
  unfold Memory.cons
  split
  · rfl
  · simp [Memory.read, Ne.symm h]

/-- A read after a write under the same key gives the value written. -/
theorem Memory.read_write_same {mem : List Host.Cell} (key : Nat) (v : Byte) (w : Memory.wf mem = true) :
    Memory.read (Memory.write mem key v) key = v := by
  have go : ∀ low, Memory.wfFrom low mem = true → Memory.read (Memory.write mem key v) key = v := by
    induction mem with
    | nil => intro _ _; exact Memory.read_cons_same rfl
    | cons cell rest ih =>
      intro low w
      have w0 := w
      simp only [Memory.wfFrom, Bool.and_eq_true, decide_eq_true_eq] at w
      simp only [Memory.write]
      split
      · apply Memory.read_cons_same
        exact Memory.read_below (low := cell.1) (by simp [Memory.wfFrom, w.1.2, w.2]) (by omega)
      · split
        · rename_i heq
          subst heq
          exact Memory.read_cons_same (Memory.read_below w.2 (by omega))
        · rename_i hne
          simp only [Memory.read]
          rw [if_neg (fun h => hne h.symm)]
          exact ih (Memory.wfFrom_mono (Nat.zero_le _) w.2) _ w.2
  exact go 0 w

/-- A write leaves every other key alone. -/
theorem Memory.read_write_other {mem : List Host.Cell} {key key' : Nat} (v : Byte) (h : key' ≠ key) :
    Memory.read (Memory.write mem key v) key' = Memory.read mem key' := by
  induction mem with
  | nil => exact Memory.read_cons_other h
  | cons cell rest ih =>
    simp only [Memory.write]
    split
    · exact Memory.read_cons_other h
    · split
      · rename_i heq
        rw [Memory.read_cons_other h]
        simp only [Memory.read]
        rw [if_neg (by omega)]
      · simp only [Memory.read]
        split
        · rfl
        · exact ih

theorem Memory.wf_empty : Memory.wf [] = true := rfl

end Sys2Proof.Machine
end

