-- ==== Sys2Proof/Laws/State.lean ====
section
/-! SUPPORT. One lemma per field per named update of the state, true by `rfl`, so that no proof unfolds a record update. -/

namespace Sys2Proof.Machine

/-! ### `State.setReg` -/

@[simp] theorem State.setReg_regs (s : State) (r : Reg8) (v : Byte) : (s.setReg r v).regs = s.regs.set r v := rfl
@[simp] theorem State.setReg_flags (s : State) (r : Reg8) (v : Byte) : (s.setReg r v).flags = s.flags := rfl
@[simp] theorem State.setReg_pc (s : State) (r : Reg8) (v : Byte) : (s.setReg r v).pc = s.pc := rfl
@[simp] theorem State.setReg_sp (s : State) (r : Reg8) (v : Byte) : (s.setReg r v).sp = s.sp := rfl
@[simp] theorem State.setReg_ie (s : State) (r : Reg8) (v : Byte) : (s.setReg r v).ie = s.ie := rfl
@[simp] theorem State.setReg_iflag (s : State) (r : Reg8) (v : Byte) : (s.setReg r v).iflag = s.iflag := rfl
@[simp] theorem State.setReg_ime (s : State) (r : Reg8) (v : Byte) : (s.setReg r v).ime = s.ime := rfl
@[simp] theorem State.setReg_imePending (s : State) (r : Reg8) (v : Byte) : (s.setReg r v).imePending = s.imePending := rfl
@[simp] theorem State.setReg_halted (s : State) (r : Reg8) (v : Byte) : (s.setReg r v).halted = s.halted := rfl
@[simp] theorem State.setReg_doubleSpeed (s : State) (r : Reg8) (v : Byte) : (s.setReg r v).doubleSpeed = s.doubleSpeed := rfl
@[simp] theorem State.setReg_speedArmed (s : State) (r : Reg8) (v : Byte) : (s.setReg r v).speedArmed = s.speedArmed := rfl
@[simp] theorem State.setReg_haltBugLatch (s : State) (r : Reg8) (v : Byte) : (s.setReg r v).haltBugLatch = s.haltBugLatch := rfl
@[simp] theorem State.setReg_fault (s : State) (r : Reg8) (v : Byte) : (s.setReg r v).fault = s.fault := rfl
@[simp] theorem State.setReg_mem (s : State) (r : Reg8) (v : Byte) : (s.setReg r v).mem = s.mem := rfl
@[simp] theorem State.setReg_cart (s : State) (r : Reg8) (v : Byte) : (s.setReg r v).cart = s.cart := rfl
@[simp] theorem State.setReg_timer (s : State) (r : Reg8) (v : Byte) : (s.setReg r v).timer = s.timer := rfl
@[simp] theorem State.setReg_dma (s : State) (r : Reg8) (v : Byte) : (s.setReg r v).dma = s.dma := rfl
@[simp] theorem State.setReg_ppu (s : State) (r : Reg8) (v : Byte) : (s.setReg r v).ppu = s.ppu := rfl
@[simp] theorem State.setReg_apu (s : State) (r : Reg8) (v : Byte) : (s.setReg r v).apu = s.apu := rfl
@[simp] theorem State.setReg_pad (s : State) (r : Reg8) (v : Byte) : (s.setReg r v).pad = s.pad := rfl
@[simp] theorem State.setReg_sched (s : State) (r : Reg8) (v : Byte) : (s.setReg r v).sched = s.sched := rfl
@[simp] theorem State.setReg_launch (s : State) (r : Reg8) (v : Byte) : (s.setReg r v).launch = s.launch := rfl
@[simp] theorem State.setReg_opAddr (s : State) (r : Reg8) (v : Byte) : (s.setReg r v).opAddr = s.opAddr := rfl
@[simp] theorem State.setReg_cyc (s : State) (r : Reg8) (v : Byte) : (s.setReg r v).cyc = s.cyc := rfl
@[simp] theorem State.setReg_draws (s : State) (r : Reg8) (v : Byte) : (s.setReg r v).draws = s.draws := rfl

/-! ### `State.setHL` -/

@[simp] theorem State.setHL_regs (s : State) (v : Word) : (s.setHL v).regs = (s.regs.set .h (hiByte v)).set .l (loByte v) := rfl
@[simp] theorem State.setHL_flags (s : State) (v : Word) : (s.setHL v).flags = s.flags := rfl
@[simp] theorem State.setHL_pc (s : State) (v : Word) : (s.setHL v).pc = s.pc := rfl
@[simp] theorem State.setHL_sp (s : State) (v : Word) : (s.setHL v).sp = s.sp := rfl
@[simp] theorem State.setHL_ie (s : State) (v : Word) : (s.setHL v).ie = s.ie := rfl
@[simp] theorem State.setHL_iflag (s : State) (v : Word) : (s.setHL v).iflag = s.iflag := rfl
@[simp] theorem State.setHL_ime (s : State) (v : Word) : (s.setHL v).ime = s.ime := rfl
@[simp] theorem State.setHL_imePending (s : State) (v : Word) : (s.setHL v).imePending = s.imePending := rfl
@[simp] theorem State.setHL_halted (s : State) (v : Word) : (s.setHL v).halted = s.halted := rfl
@[simp] theorem State.setHL_doubleSpeed (s : State) (v : Word) : (s.setHL v).doubleSpeed = s.doubleSpeed := rfl
@[simp] theorem State.setHL_speedArmed (s : State) (v : Word) : (s.setHL v).speedArmed = s.speedArmed := rfl
@[simp] theorem State.setHL_haltBugLatch (s : State) (v : Word) : (s.setHL v).haltBugLatch = s.haltBugLatch := rfl
@[simp] theorem State.setHL_fault (s : State) (v : Word) : (s.setHL v).fault = s.fault := rfl
@[simp] theorem State.setHL_mem (s : State) (v : Word) : (s.setHL v).mem = s.mem := rfl
@[simp] theorem State.setHL_cart (s : State) (v : Word) : (s.setHL v).cart = s.cart := rfl
@[simp] theorem State.setHL_timer (s : State) (v : Word) : (s.setHL v).timer = s.timer := rfl
@[simp] theorem State.setHL_dma (s : State) (v : Word) : (s.setHL v).dma = s.dma := rfl
@[simp] theorem State.setHL_ppu (s : State) (v : Word) : (s.setHL v).ppu = s.ppu := rfl
@[simp] theorem State.setHL_apu (s : State) (v : Word) : (s.setHL v).apu = s.apu := rfl
@[simp] theorem State.setHL_pad (s : State) (v : Word) : (s.setHL v).pad = s.pad := rfl
@[simp] theorem State.setHL_sched (s : State) (v : Word) : (s.setHL v).sched = s.sched := rfl
@[simp] theorem State.setHL_launch (s : State) (v : Word) : (s.setHL v).launch = s.launch := rfl
@[simp] theorem State.setHL_opAddr (s : State) (v : Word) : (s.setHL v).opAddr = s.opAddr := rfl
@[simp] theorem State.setHL_cyc (s : State) (v : Word) : (s.setHL v).cyc = s.cyc := rfl
@[simp] theorem State.setHL_draws (s : State) (v : Word) : (s.setHL v).draws = s.draws := rfl

/-! ### `State.setBC` -/

@[simp] theorem State.setBC_regs (s : State) (v : Word) : (s.setBC v).regs = (s.regs.set .b (hiByte v)).set .c (loByte v) := rfl
@[simp] theorem State.setBC_flags (s : State) (v : Word) : (s.setBC v).flags = s.flags := rfl
@[simp] theorem State.setBC_pc (s : State) (v : Word) : (s.setBC v).pc = s.pc := rfl
@[simp] theorem State.setBC_sp (s : State) (v : Word) : (s.setBC v).sp = s.sp := rfl
@[simp] theorem State.setBC_ie (s : State) (v : Word) : (s.setBC v).ie = s.ie := rfl
@[simp] theorem State.setBC_iflag (s : State) (v : Word) : (s.setBC v).iflag = s.iflag := rfl
@[simp] theorem State.setBC_ime (s : State) (v : Word) : (s.setBC v).ime = s.ime := rfl
@[simp] theorem State.setBC_imePending (s : State) (v : Word) : (s.setBC v).imePending = s.imePending := rfl
@[simp] theorem State.setBC_halted (s : State) (v : Word) : (s.setBC v).halted = s.halted := rfl
@[simp] theorem State.setBC_doubleSpeed (s : State) (v : Word) : (s.setBC v).doubleSpeed = s.doubleSpeed := rfl
@[simp] theorem State.setBC_speedArmed (s : State) (v : Word) : (s.setBC v).speedArmed = s.speedArmed := rfl
@[simp] theorem State.setBC_haltBugLatch (s : State) (v : Word) : (s.setBC v).haltBugLatch = s.haltBugLatch := rfl
@[simp] theorem State.setBC_fault (s : State) (v : Word) : (s.setBC v).fault = s.fault := rfl
@[simp] theorem State.setBC_mem (s : State) (v : Word) : (s.setBC v).mem = s.mem := rfl
@[simp] theorem State.setBC_cart (s : State) (v : Word) : (s.setBC v).cart = s.cart := rfl
@[simp] theorem State.setBC_timer (s : State) (v : Word) : (s.setBC v).timer = s.timer := rfl
@[simp] theorem State.setBC_dma (s : State) (v : Word) : (s.setBC v).dma = s.dma := rfl
@[simp] theorem State.setBC_ppu (s : State) (v : Word) : (s.setBC v).ppu = s.ppu := rfl
@[simp] theorem State.setBC_apu (s : State) (v : Word) : (s.setBC v).apu = s.apu := rfl
@[simp] theorem State.setBC_pad (s : State) (v : Word) : (s.setBC v).pad = s.pad := rfl
@[simp] theorem State.setBC_sched (s : State) (v : Word) : (s.setBC v).sched = s.sched := rfl
@[simp] theorem State.setBC_launch (s : State) (v : Word) : (s.setBC v).launch = s.launch := rfl
@[simp] theorem State.setBC_opAddr (s : State) (v : Word) : (s.setBC v).opAddr = s.opAddr := rfl
@[simp] theorem State.setBC_cyc (s : State) (v : Word) : (s.setBC v).cyc = s.cyc := rfl
@[simp] theorem State.setBC_draws (s : State) (v : Word) : (s.setBC v).draws = s.draws := rfl

/-! ### `State.setDE` -/

@[simp] theorem State.setDE_regs (s : State) (v : Word) : (s.setDE v).regs = (s.regs.set .d (hiByte v)).set .e (loByte v) := rfl
@[simp] theorem State.setDE_flags (s : State) (v : Word) : (s.setDE v).flags = s.flags := rfl
@[simp] theorem State.setDE_pc (s : State) (v : Word) : (s.setDE v).pc = s.pc := rfl
@[simp] theorem State.setDE_sp (s : State) (v : Word) : (s.setDE v).sp = s.sp := rfl
@[simp] theorem State.setDE_ie (s : State) (v : Word) : (s.setDE v).ie = s.ie := rfl
@[simp] theorem State.setDE_iflag (s : State) (v : Word) : (s.setDE v).iflag = s.iflag := rfl
@[simp] theorem State.setDE_ime (s : State) (v : Word) : (s.setDE v).ime = s.ime := rfl
@[simp] theorem State.setDE_imePending (s : State) (v : Word) : (s.setDE v).imePending = s.imePending := rfl
@[simp] theorem State.setDE_halted (s : State) (v : Word) : (s.setDE v).halted = s.halted := rfl
@[simp] theorem State.setDE_doubleSpeed (s : State) (v : Word) : (s.setDE v).doubleSpeed = s.doubleSpeed := rfl
@[simp] theorem State.setDE_speedArmed (s : State) (v : Word) : (s.setDE v).speedArmed = s.speedArmed := rfl
@[simp] theorem State.setDE_haltBugLatch (s : State) (v : Word) : (s.setDE v).haltBugLatch = s.haltBugLatch := rfl
@[simp] theorem State.setDE_fault (s : State) (v : Word) : (s.setDE v).fault = s.fault := rfl
@[simp] theorem State.setDE_mem (s : State) (v : Word) : (s.setDE v).mem = s.mem := rfl
@[simp] theorem State.setDE_cart (s : State) (v : Word) : (s.setDE v).cart = s.cart := rfl
@[simp] theorem State.setDE_timer (s : State) (v : Word) : (s.setDE v).timer = s.timer := rfl
@[simp] theorem State.setDE_dma (s : State) (v : Word) : (s.setDE v).dma = s.dma := rfl
@[simp] theorem State.setDE_ppu (s : State) (v : Word) : (s.setDE v).ppu = s.ppu := rfl
@[simp] theorem State.setDE_apu (s : State) (v : Word) : (s.setDE v).apu = s.apu := rfl
@[simp] theorem State.setDE_pad (s : State) (v : Word) : (s.setDE v).pad = s.pad := rfl
@[simp] theorem State.setDE_sched (s : State) (v : Word) : (s.setDE v).sched = s.sched := rfl
@[simp] theorem State.setDE_launch (s : State) (v : Word) : (s.setDE v).launch = s.launch := rfl
@[simp] theorem State.setDE_opAddr (s : State) (v : Word) : (s.setDE v).opAddr = s.opAddr := rfl
@[simp] theorem State.setDE_cyc (s : State) (v : Word) : (s.setDE v).cyc = s.cyc := rfl
@[simp] theorem State.setDE_draws (s : State) (v : Word) : (s.setDE v).draws = s.draws := rfl

/-! ### `State.setAF` -/

@[simp] theorem State.setAF_regs (s : State) (v : Word) : (s.setAF v).regs = s.regs.set .a (hiByte v) := rfl
@[simp] theorem State.setAF_flags (s : State) (v : Word) : (s.setAF v).flags = Flags.ofByte (loByte v) := rfl
@[simp] theorem State.setAF_pc (s : State) (v : Word) : (s.setAF v).pc = s.pc := rfl
@[simp] theorem State.setAF_sp (s : State) (v : Word) : (s.setAF v).sp = s.sp := rfl
@[simp] theorem State.setAF_ie (s : State) (v : Word) : (s.setAF v).ie = s.ie := rfl
@[simp] theorem State.setAF_iflag (s : State) (v : Word) : (s.setAF v).iflag = s.iflag := rfl
@[simp] theorem State.setAF_ime (s : State) (v : Word) : (s.setAF v).ime = s.ime := rfl
@[simp] theorem State.setAF_imePending (s : State) (v : Word) : (s.setAF v).imePending = s.imePending := rfl
@[simp] theorem State.setAF_halted (s : State) (v : Word) : (s.setAF v).halted = s.halted := rfl
@[simp] theorem State.setAF_doubleSpeed (s : State) (v : Word) : (s.setAF v).doubleSpeed = s.doubleSpeed := rfl
@[simp] theorem State.setAF_speedArmed (s : State) (v : Word) : (s.setAF v).speedArmed = s.speedArmed := rfl
@[simp] theorem State.setAF_haltBugLatch (s : State) (v : Word) : (s.setAF v).haltBugLatch = s.haltBugLatch := rfl
@[simp] theorem State.setAF_fault (s : State) (v : Word) : (s.setAF v).fault = s.fault := rfl
@[simp] theorem State.setAF_mem (s : State) (v : Word) : (s.setAF v).mem = s.mem := rfl
@[simp] theorem State.setAF_cart (s : State) (v : Word) : (s.setAF v).cart = s.cart := rfl
@[simp] theorem State.setAF_timer (s : State) (v : Word) : (s.setAF v).timer = s.timer := rfl
@[simp] theorem State.setAF_dma (s : State) (v : Word) : (s.setAF v).dma = s.dma := rfl
@[simp] theorem State.setAF_ppu (s : State) (v : Word) : (s.setAF v).ppu = s.ppu := rfl
@[simp] theorem State.setAF_apu (s : State) (v : Word) : (s.setAF v).apu = s.apu := rfl
@[simp] theorem State.setAF_pad (s : State) (v : Word) : (s.setAF v).pad = s.pad := rfl
@[simp] theorem State.setAF_sched (s : State) (v : Word) : (s.setAF v).sched = s.sched := rfl
@[simp] theorem State.setAF_launch (s : State) (v : Word) : (s.setAF v).launch = s.launch := rfl
@[simp] theorem State.setAF_opAddr (s : State) (v : Word) : (s.setAF v).opAddr = s.opAddr := rfl
@[simp] theorem State.setAF_cyc (s : State) (v : Word) : (s.setAF v).cyc = s.cyc := rfl
@[simp] theorem State.setAF_draws (s : State) (v : Word) : (s.setAF v).draws = s.draws := rfl

/-! ### `State.setFlags` -/

@[simp] theorem State.setFlags_regs (s : State) (f : Flags) : (s.setFlags f).regs = s.regs := rfl
@[simp] theorem State.setFlags_flags (s : State) (f : Flags) : (s.setFlags f).flags = f := rfl
@[simp] theorem State.setFlags_pc (s : State) (f : Flags) : (s.setFlags f).pc = s.pc := rfl
@[simp] theorem State.setFlags_sp (s : State) (f : Flags) : (s.setFlags f).sp = s.sp := rfl
@[simp] theorem State.setFlags_ie (s : State) (f : Flags) : (s.setFlags f).ie = s.ie := rfl
@[simp] theorem State.setFlags_iflag (s : State) (f : Flags) : (s.setFlags f).iflag = s.iflag := rfl
@[simp] theorem State.setFlags_ime (s : State) (f : Flags) : (s.setFlags f).ime = s.ime := rfl
@[simp] theorem State.setFlags_imePending (s : State) (f : Flags) : (s.setFlags f).imePending = s.imePending := rfl
@[simp] theorem State.setFlags_halted (s : State) (f : Flags) : (s.setFlags f).halted = s.halted := rfl
@[simp] theorem State.setFlags_doubleSpeed (s : State) (f : Flags) : (s.setFlags f).doubleSpeed = s.doubleSpeed := rfl
@[simp] theorem State.setFlags_speedArmed (s : State) (f : Flags) : (s.setFlags f).speedArmed = s.speedArmed := rfl
@[simp] theorem State.setFlags_haltBugLatch (s : State) (f : Flags) : (s.setFlags f).haltBugLatch = s.haltBugLatch := rfl
@[simp] theorem State.setFlags_fault (s : State) (f : Flags) : (s.setFlags f).fault = s.fault := rfl
@[simp] theorem State.setFlags_mem (s : State) (f : Flags) : (s.setFlags f).mem = s.mem := rfl
@[simp] theorem State.setFlags_cart (s : State) (f : Flags) : (s.setFlags f).cart = s.cart := rfl
@[simp] theorem State.setFlags_timer (s : State) (f : Flags) : (s.setFlags f).timer = s.timer := rfl
@[simp] theorem State.setFlags_dma (s : State) (f : Flags) : (s.setFlags f).dma = s.dma := rfl
@[simp] theorem State.setFlags_ppu (s : State) (f : Flags) : (s.setFlags f).ppu = s.ppu := rfl
@[simp] theorem State.setFlags_apu (s : State) (f : Flags) : (s.setFlags f).apu = s.apu := rfl
@[simp] theorem State.setFlags_pad (s : State) (f : Flags) : (s.setFlags f).pad = s.pad := rfl
@[simp] theorem State.setFlags_sched (s : State) (f : Flags) : (s.setFlags f).sched = s.sched := rfl
@[simp] theorem State.setFlags_launch (s : State) (f : Flags) : (s.setFlags f).launch = s.launch := rfl
@[simp] theorem State.setFlags_opAddr (s : State) (f : Flags) : (s.setFlags f).opAddr = s.opAddr := rfl
@[simp] theorem State.setFlags_cyc (s : State) (f : Flags) : (s.setFlags f).cyc = s.cyc := rfl
@[simp] theorem State.setFlags_draws (s : State) (f : Flags) : (s.setFlags f).draws = s.draws := rfl

/-! ### `State.setPc` -/

@[simp] theorem State.setPc_regs (s : State) (v : Word) : (s.setPc v).regs = s.regs := rfl
@[simp] theorem State.setPc_flags (s : State) (v : Word) : (s.setPc v).flags = s.flags := rfl
@[simp] theorem State.setPc_pc (s : State) (v : Word) : (s.setPc v).pc = v := rfl
@[simp] theorem State.setPc_sp (s : State) (v : Word) : (s.setPc v).sp = s.sp := rfl
@[simp] theorem State.setPc_ie (s : State) (v : Word) : (s.setPc v).ie = s.ie := rfl
@[simp] theorem State.setPc_iflag (s : State) (v : Word) : (s.setPc v).iflag = s.iflag := rfl
@[simp] theorem State.setPc_ime (s : State) (v : Word) : (s.setPc v).ime = s.ime := rfl
@[simp] theorem State.setPc_imePending (s : State) (v : Word) : (s.setPc v).imePending = s.imePending := rfl
@[simp] theorem State.setPc_halted (s : State) (v : Word) : (s.setPc v).halted = s.halted := rfl
@[simp] theorem State.setPc_doubleSpeed (s : State) (v : Word) : (s.setPc v).doubleSpeed = s.doubleSpeed := rfl
@[simp] theorem State.setPc_speedArmed (s : State) (v : Word) : (s.setPc v).speedArmed = s.speedArmed := rfl
@[simp] theorem State.setPc_haltBugLatch (s : State) (v : Word) : (s.setPc v).haltBugLatch = s.haltBugLatch := rfl
@[simp] theorem State.setPc_fault (s : State) (v : Word) : (s.setPc v).fault = s.fault := rfl
@[simp] theorem State.setPc_mem (s : State) (v : Word) : (s.setPc v).mem = s.mem := rfl
@[simp] theorem State.setPc_cart (s : State) (v : Word) : (s.setPc v).cart = s.cart := rfl
@[simp] theorem State.setPc_timer (s : State) (v : Word) : (s.setPc v).timer = s.timer := rfl
@[simp] theorem State.setPc_dma (s : State) (v : Word) : (s.setPc v).dma = s.dma := rfl
@[simp] theorem State.setPc_ppu (s : State) (v : Word) : (s.setPc v).ppu = s.ppu := rfl
@[simp] theorem State.setPc_apu (s : State) (v : Word) : (s.setPc v).apu = s.apu := rfl
@[simp] theorem State.setPc_pad (s : State) (v : Word) : (s.setPc v).pad = s.pad := rfl
@[simp] theorem State.setPc_sched (s : State) (v : Word) : (s.setPc v).sched = s.sched := rfl
@[simp] theorem State.setPc_launch (s : State) (v : Word) : (s.setPc v).launch = s.launch := rfl
@[simp] theorem State.setPc_opAddr (s : State) (v : Word) : (s.setPc v).opAddr = s.opAddr := rfl
@[simp] theorem State.setPc_cyc (s : State) (v : Word) : (s.setPc v).cyc = s.cyc := rfl
@[simp] theorem State.setPc_draws (s : State) (v : Word) : (s.setPc v).draws = s.draws := rfl

/-! ### `State.setSp` -/

@[simp] theorem State.setSp_regs (s : State) (v : Word) : (s.setSp v).regs = s.regs := rfl
@[simp] theorem State.setSp_flags (s : State) (v : Word) : (s.setSp v).flags = s.flags := rfl
@[simp] theorem State.setSp_pc (s : State) (v : Word) : (s.setSp v).pc = s.pc := rfl
@[simp] theorem State.setSp_sp (s : State) (v : Word) : (s.setSp v).sp = v := rfl
@[simp] theorem State.setSp_ie (s : State) (v : Word) : (s.setSp v).ie = s.ie := rfl
@[simp] theorem State.setSp_iflag (s : State) (v : Word) : (s.setSp v).iflag = s.iflag := rfl
@[simp] theorem State.setSp_ime (s : State) (v : Word) : (s.setSp v).ime = s.ime := rfl
@[simp] theorem State.setSp_imePending (s : State) (v : Word) : (s.setSp v).imePending = s.imePending := rfl
@[simp] theorem State.setSp_halted (s : State) (v : Word) : (s.setSp v).halted = s.halted := rfl
@[simp] theorem State.setSp_doubleSpeed (s : State) (v : Word) : (s.setSp v).doubleSpeed = s.doubleSpeed := rfl
@[simp] theorem State.setSp_speedArmed (s : State) (v : Word) : (s.setSp v).speedArmed = s.speedArmed := rfl
@[simp] theorem State.setSp_haltBugLatch (s : State) (v : Word) : (s.setSp v).haltBugLatch = s.haltBugLatch := rfl
@[simp] theorem State.setSp_fault (s : State) (v : Word) : (s.setSp v).fault = s.fault := rfl
@[simp] theorem State.setSp_mem (s : State) (v : Word) : (s.setSp v).mem = s.mem := rfl
@[simp] theorem State.setSp_cart (s : State) (v : Word) : (s.setSp v).cart = s.cart := rfl
@[simp] theorem State.setSp_timer (s : State) (v : Word) : (s.setSp v).timer = s.timer := rfl
@[simp] theorem State.setSp_dma (s : State) (v : Word) : (s.setSp v).dma = s.dma := rfl
@[simp] theorem State.setSp_ppu (s : State) (v : Word) : (s.setSp v).ppu = s.ppu := rfl
@[simp] theorem State.setSp_apu (s : State) (v : Word) : (s.setSp v).apu = s.apu := rfl
@[simp] theorem State.setSp_pad (s : State) (v : Word) : (s.setSp v).pad = s.pad := rfl
@[simp] theorem State.setSp_sched (s : State) (v : Word) : (s.setSp v).sched = s.sched := rfl
@[simp] theorem State.setSp_launch (s : State) (v : Word) : (s.setSp v).launch = s.launch := rfl
@[simp] theorem State.setSp_opAddr (s : State) (v : Word) : (s.setSp v).opAddr = s.opAddr := rfl
@[simp] theorem State.setSp_cyc (s : State) (v : Word) : (s.setSp v).cyc = s.cyc := rfl
@[simp] theorem State.setSp_draws (s : State) (v : Word) : (s.setSp v).draws = s.draws := rfl

/-! ### `State.spend` -/

@[simp] theorem State.spend_regs (s : State) (n : Nat) : (s.spend n).regs = s.regs := rfl
@[simp] theorem State.spend_flags (s : State) (n : Nat) : (s.spend n).flags = s.flags := rfl
@[simp] theorem State.spend_pc (s : State) (n : Nat) : (s.spend n).pc = s.pc := rfl
@[simp] theorem State.spend_sp (s : State) (n : Nat) : (s.spend n).sp = s.sp := rfl
@[simp] theorem State.spend_ie (s : State) (n : Nat) : (s.spend n).ie = s.ie := rfl
@[simp] theorem State.spend_iflag (s : State) (n : Nat) : (s.spend n).iflag = s.iflag := rfl
@[simp] theorem State.spend_ime (s : State) (n : Nat) : (s.spend n).ime = s.ime := rfl
@[simp] theorem State.spend_imePending (s : State) (n : Nat) : (s.spend n).imePending = s.imePending := rfl
@[simp] theorem State.spend_halted (s : State) (n : Nat) : (s.spend n).halted = s.halted := rfl
@[simp] theorem State.spend_doubleSpeed (s : State) (n : Nat) : (s.spend n).doubleSpeed = s.doubleSpeed := rfl
@[simp] theorem State.spend_speedArmed (s : State) (n : Nat) : (s.spend n).speedArmed = s.speedArmed := rfl
@[simp] theorem State.spend_haltBugLatch (s : State) (n : Nat) : (s.spend n).haltBugLatch = s.haltBugLatch := rfl
@[simp] theorem State.spend_fault (s : State) (n : Nat) : (s.spend n).fault = s.fault := rfl
@[simp] theorem State.spend_mem (s : State) (n : Nat) : (s.spend n).mem = s.mem := rfl
@[simp] theorem State.spend_cart (s : State) (n : Nat) : (s.spend n).cart = s.cart := rfl
@[simp] theorem State.spend_timer (s : State) (n : Nat) : (s.spend n).timer = s.timer := rfl
@[simp] theorem State.spend_dma (s : State) (n : Nat) : (s.spend n).dma = s.dma := rfl
@[simp] theorem State.spend_ppu (s : State) (n : Nat) : (s.spend n).ppu = s.ppu := rfl
@[simp] theorem State.spend_apu (s : State) (n : Nat) : (s.spend n).apu = s.apu := rfl
@[simp] theorem State.spend_pad (s : State) (n : Nat) : (s.spend n).pad = s.pad := rfl
@[simp] theorem State.spend_sched (s : State) (n : Nat) : (s.spend n).sched = s.sched := rfl
@[simp] theorem State.spend_launch (s : State) (n : Nat) : (s.spend n).launch = s.launch := rfl
@[simp] theorem State.spend_opAddr (s : State) (n : Nat) : (s.spend n).opAddr = s.opAddr := rfl
@[simp] theorem State.spend_cyc (s : State) (n : Nat) : (s.spend n).cyc = n := rfl
@[simp] theorem State.spend_draws (s : State) (n : Nat) : (s.spend n).draws = s.draws := rfl

/-! ### `State.countRead` -/

@[simp] theorem State.countRead_regs (s : State) : (s.countRead).regs = s.regs := rfl
@[simp] theorem State.countRead_flags (s : State) : (s.countRead).flags = s.flags := rfl
@[simp] theorem State.countRead_pc (s : State) : (s.countRead).pc = s.pc := rfl
@[simp] theorem State.countRead_sp (s : State) : (s.countRead).sp = s.sp := rfl
@[simp] theorem State.countRead_ie (s : State) : (s.countRead).ie = s.ie := rfl
@[simp] theorem State.countRead_iflag (s : State) : (s.countRead).iflag = s.iflag := rfl
@[simp] theorem State.countRead_ime (s : State) : (s.countRead).ime = s.ime := rfl
@[simp] theorem State.countRead_imePending (s : State) : (s.countRead).imePending = s.imePending := rfl
@[simp] theorem State.countRead_halted (s : State) : (s.countRead).halted = s.halted := rfl
@[simp] theorem State.countRead_doubleSpeed (s : State) : (s.countRead).doubleSpeed = s.doubleSpeed := rfl
@[simp] theorem State.countRead_speedArmed (s : State) : (s.countRead).speedArmed = s.speedArmed := rfl
@[simp] theorem State.countRead_haltBugLatch (s : State) : (s.countRead).haltBugLatch = s.haltBugLatch := rfl
@[simp] theorem State.countRead_fault (s : State) : (s.countRead).fault = s.fault := rfl
@[simp] theorem State.countRead_mem (s : State) : (s.countRead).mem = s.mem := rfl
@[simp] theorem State.countRead_cart (s : State) : (s.countRead).cart = s.cart := rfl
@[simp] theorem State.countRead_timer (s : State) : (s.countRead).timer = s.timer := rfl
@[simp] theorem State.countRead_dma (s : State) : (s.countRead).dma = s.dma := rfl
@[simp] theorem State.countRead_ppu (s : State) : (s.countRead).ppu = s.ppu := rfl
@[simp] theorem State.countRead_apu (s : State) : (s.countRead).apu = s.apu := rfl
@[simp] theorem State.countRead_pad (s : State) : (s.countRead).pad = s.pad := rfl
@[simp] theorem State.countRead_sched (s : State) : (s.countRead).sched = s.sched := rfl
@[simp] theorem State.countRead_launch (s : State) : (s.countRead).launch = s.launch := rfl
@[simp] theorem State.countRead_opAddr (s : State) : (s.countRead).opAddr = s.opAddr := rfl
@[simp] theorem State.countRead_cyc (s : State) : (s.countRead).cyc = s.cyc := rfl
@[simp] theorem State.countRead_draws (s : State) : (s.countRead).draws = s.draws + 1 := rfl

/-! ### `State.setCell` -/

@[simp] theorem State.setCell_regs (s : State) (k : Nat) (v : Byte) : (s.setCell k v).regs = s.regs := rfl
@[simp] theorem State.setCell_flags (s : State) (k : Nat) (v : Byte) : (s.setCell k v).flags = s.flags := rfl
@[simp] theorem State.setCell_pc (s : State) (k : Nat) (v : Byte) : (s.setCell k v).pc = s.pc := rfl
@[simp] theorem State.setCell_sp (s : State) (k : Nat) (v : Byte) : (s.setCell k v).sp = s.sp := rfl
@[simp] theorem State.setCell_ie (s : State) (k : Nat) (v : Byte) : (s.setCell k v).ie = s.ie := rfl
@[simp] theorem State.setCell_iflag (s : State) (k : Nat) (v : Byte) : (s.setCell k v).iflag = s.iflag := rfl
@[simp] theorem State.setCell_ime (s : State) (k : Nat) (v : Byte) : (s.setCell k v).ime = s.ime := rfl
@[simp] theorem State.setCell_imePending (s : State) (k : Nat) (v : Byte) : (s.setCell k v).imePending = s.imePending := rfl
@[simp] theorem State.setCell_halted (s : State) (k : Nat) (v : Byte) : (s.setCell k v).halted = s.halted := rfl
@[simp] theorem State.setCell_doubleSpeed (s : State) (k : Nat) (v : Byte) : (s.setCell k v).doubleSpeed = s.doubleSpeed := rfl
@[simp] theorem State.setCell_speedArmed (s : State) (k : Nat) (v : Byte) : (s.setCell k v).speedArmed = s.speedArmed := rfl
@[simp] theorem State.setCell_haltBugLatch (s : State) (k : Nat) (v : Byte) : (s.setCell k v).haltBugLatch = s.haltBugLatch := rfl
@[simp] theorem State.setCell_fault (s : State) (k : Nat) (v : Byte) : (s.setCell k v).fault = s.fault := rfl
@[simp] theorem State.setCell_mem (s : State) (k : Nat) (v : Byte) : (s.setCell k v).mem = Memory.write s.mem k v := rfl
@[simp] theorem State.setCell_cart (s : State) (k : Nat) (v : Byte) : (s.setCell k v).cart = s.cart := rfl
@[simp] theorem State.setCell_timer (s : State) (k : Nat) (v : Byte) : (s.setCell k v).timer = s.timer := rfl
@[simp] theorem State.setCell_dma (s : State) (k : Nat) (v : Byte) : (s.setCell k v).dma = s.dma := rfl
@[simp] theorem State.setCell_ppu (s : State) (k : Nat) (v : Byte) : (s.setCell k v).ppu = s.ppu := rfl
@[simp] theorem State.setCell_apu (s : State) (k : Nat) (v : Byte) : (s.setCell k v).apu = s.apu := rfl
@[simp] theorem State.setCell_pad (s : State) (k : Nat) (v : Byte) : (s.setCell k v).pad = s.pad := rfl
@[simp] theorem State.setCell_sched (s : State) (k : Nat) (v : Byte) : (s.setCell k v).sched = s.sched := rfl
@[simp] theorem State.setCell_launch (s : State) (k : Nat) (v : Byte) : (s.setCell k v).launch = s.launch := rfl
@[simp] theorem State.setCell_opAddr (s : State) (k : Nat) (v : Byte) : (s.setCell k v).opAddr = s.opAddr := rfl
@[simp] theorem State.setCell_cyc (s : State) (k : Nat) (v : Byte) : (s.setCell k v).cyc = s.cyc := rfl
@[simp] theorem State.setCell_draws (s : State) (k : Nat) (v : Byte) : (s.setCell k v).draws = s.draws := rfl

/-! ### `State.setMapper` -/

@[simp] theorem State.setMapper_regs (s : State) (m : Mapper) : (s.setMapper m).regs = s.regs := rfl
@[simp] theorem State.setMapper_flags (s : State) (m : Mapper) : (s.setMapper m).flags = s.flags := rfl
@[simp] theorem State.setMapper_pc (s : State) (m : Mapper) : (s.setMapper m).pc = s.pc := rfl
@[simp] theorem State.setMapper_sp (s : State) (m : Mapper) : (s.setMapper m).sp = s.sp := rfl
@[simp] theorem State.setMapper_ie (s : State) (m : Mapper) : (s.setMapper m).ie = s.ie := rfl
@[simp] theorem State.setMapper_iflag (s : State) (m : Mapper) : (s.setMapper m).iflag = s.iflag := rfl
@[simp] theorem State.setMapper_ime (s : State) (m : Mapper) : (s.setMapper m).ime = s.ime := rfl
@[simp] theorem State.setMapper_imePending (s : State) (m : Mapper) : (s.setMapper m).imePending = s.imePending := rfl
@[simp] theorem State.setMapper_halted (s : State) (m : Mapper) : (s.setMapper m).halted = s.halted := rfl
@[simp] theorem State.setMapper_doubleSpeed (s : State) (m : Mapper) : (s.setMapper m).doubleSpeed = s.doubleSpeed := rfl
@[simp] theorem State.setMapper_speedArmed (s : State) (m : Mapper) : (s.setMapper m).speedArmed = s.speedArmed := rfl
@[simp] theorem State.setMapper_haltBugLatch (s : State) (m : Mapper) : (s.setMapper m).haltBugLatch = s.haltBugLatch := rfl
@[simp] theorem State.setMapper_fault (s : State) (m : Mapper) : (s.setMapper m).fault = s.fault := rfl
@[simp] theorem State.setMapper_mem (s : State) (m : Mapper) : (s.setMapper m).mem = s.mem := rfl
@[simp] theorem State.setMapper_cart (s : State) (m : Mapper) : (s.setMapper m).cart = { s.cart with mapper := m } := rfl
@[simp] theorem State.setMapper_timer (s : State) (m : Mapper) : (s.setMapper m).timer = s.timer := rfl
@[simp] theorem State.setMapper_dma (s : State) (m : Mapper) : (s.setMapper m).dma = s.dma := rfl
@[simp] theorem State.setMapper_ppu (s : State) (m : Mapper) : (s.setMapper m).ppu = s.ppu := rfl
@[simp] theorem State.setMapper_apu (s : State) (m : Mapper) : (s.setMapper m).apu = s.apu := rfl
@[simp] theorem State.setMapper_pad (s : State) (m : Mapper) : (s.setMapper m).pad = s.pad := rfl
@[simp] theorem State.setMapper_sched (s : State) (m : Mapper) : (s.setMapper m).sched = s.sched := rfl
@[simp] theorem State.setMapper_launch (s : State) (m : Mapper) : (s.setMapper m).launch = s.launch := rfl
@[simp] theorem State.setMapper_opAddr (s : State) (m : Mapper) : (s.setMapper m).opAddr = s.opAddr := rfl
@[simp] theorem State.setMapper_cyc (s : State) (m : Mapper) : (s.setMapper m).cyc = s.cyc := rfl
@[simp] theorem State.setMapper_draws (s : State) (m : Mapper) : (s.setMapper m).draws = s.draws := rfl

/-! ### `State.raise` -/

@[simp] theorem State.raise_regs (s : State) (n : IntSource) : (s.raise n).regs = s.regs := rfl
@[simp] theorem State.raise_flags (s : State) (n : IntSource) : (s.raise n).flags = s.flags := rfl
@[simp] theorem State.raise_pc (s : State) (n : IntSource) : (s.raise n).pc = s.pc := rfl
@[simp] theorem State.raise_sp (s : State) (n : IntSource) : (s.raise n).sp = s.sp := rfl
@[simp] theorem State.raise_ie (s : State) (n : IntSource) : (s.raise n).ie = s.ie := rfl
@[simp] theorem State.raise_iflag (s : State) (n : IntSource) : (s.raise n).iflag = s.iflag ||| n.mask := rfl
@[simp] theorem State.raise_ime (s : State) (n : IntSource) : (s.raise n).ime = s.ime := rfl
@[simp] theorem State.raise_imePending (s : State) (n : IntSource) : (s.raise n).imePending = s.imePending := rfl
@[simp] theorem State.raise_halted (s : State) (n : IntSource) : (s.raise n).halted = s.halted := rfl
@[simp] theorem State.raise_doubleSpeed (s : State) (n : IntSource) : (s.raise n).doubleSpeed = s.doubleSpeed := rfl
@[simp] theorem State.raise_speedArmed (s : State) (n : IntSource) : (s.raise n).speedArmed = s.speedArmed := rfl
@[simp] theorem State.raise_haltBugLatch (s : State) (n : IntSource) : (s.raise n).haltBugLatch = s.haltBugLatch := rfl
@[simp] theorem State.raise_fault (s : State) (n : IntSource) : (s.raise n).fault = s.fault := rfl
@[simp] theorem State.raise_mem (s : State) (n : IntSource) : (s.raise n).mem = s.mem := rfl
@[simp] theorem State.raise_cart (s : State) (n : IntSource) : (s.raise n).cart = s.cart := rfl
@[simp] theorem State.raise_timer (s : State) (n : IntSource) : (s.raise n).timer = s.timer := rfl
@[simp] theorem State.raise_dma (s : State) (n : IntSource) : (s.raise n).dma = s.dma := rfl
@[simp] theorem State.raise_ppu (s : State) (n : IntSource) : (s.raise n).ppu = s.ppu := rfl
@[simp] theorem State.raise_apu (s : State) (n : IntSource) : (s.raise n).apu = s.apu := rfl
@[simp] theorem State.raise_pad (s : State) (n : IntSource) : (s.raise n).pad = s.pad := rfl
@[simp] theorem State.raise_sched (s : State) (n : IntSource) : (s.raise n).sched = s.sched := rfl
@[simp] theorem State.raise_launch (s : State) (n : IntSource) : (s.raise n).launch = s.launch := rfl
@[simp] theorem State.raise_opAddr (s : State) (n : IntSource) : (s.raise n).opAddr = s.opAddr := rfl
@[simp] theorem State.raise_cyc (s : State) (n : IntSource) : (s.raise n).cyc = s.cyc := rfl
@[simp] theorem State.raise_draws (s : State) (n : IntSource) : (s.raise n).draws = s.draws := rfl

/-! ### `State.acknowledge` -/

@[simp] theorem State.acknowledge_regs (s : State) (n : IntSource) : (s.acknowledge n).regs = s.regs := rfl
@[simp] theorem State.acknowledge_flags (s : State) (n : IntSource) : (s.acknowledge n).flags = s.flags := rfl
@[simp] theorem State.acknowledge_pc (s : State) (n : IntSource) : (s.acknowledge n).pc = s.pc := rfl
@[simp] theorem State.acknowledge_sp (s : State) (n : IntSource) : (s.acknowledge n).sp = s.sp := rfl
@[simp] theorem State.acknowledge_ie (s : State) (n : IntSource) : (s.acknowledge n).ie = s.ie := rfl
@[simp] theorem State.acknowledge_iflag (s : State) (n : IntSource) : (s.acknowledge n).iflag = s.iflag &&& ~~~n.mask := rfl
@[simp] theorem State.acknowledge_ime (s : State) (n : IntSource) : (s.acknowledge n).ime = false := rfl
@[simp] theorem State.acknowledge_imePending (s : State) (n : IntSource) : (s.acknowledge n).imePending = s.imePending := rfl
@[simp] theorem State.acknowledge_halted (s : State) (n : IntSource) : (s.acknowledge n).halted = false := rfl
@[simp] theorem State.acknowledge_doubleSpeed (s : State) (n : IntSource) : (s.acknowledge n).doubleSpeed = s.doubleSpeed := rfl
@[simp] theorem State.acknowledge_speedArmed (s : State) (n : IntSource) : (s.acknowledge n).speedArmed = s.speedArmed := rfl
@[simp] theorem State.acknowledge_haltBugLatch (s : State) (n : IntSource) : (s.acknowledge n).haltBugLatch = s.haltBugLatch := rfl
@[simp] theorem State.acknowledge_fault (s : State) (n : IntSource) : (s.acknowledge n).fault = s.fault := rfl
@[simp] theorem State.acknowledge_mem (s : State) (n : IntSource) : (s.acknowledge n).mem = s.mem := rfl
@[simp] theorem State.acknowledge_cart (s : State) (n : IntSource) : (s.acknowledge n).cart = s.cart := rfl
@[simp] theorem State.acknowledge_timer (s : State) (n : IntSource) : (s.acknowledge n).timer = s.timer := rfl
@[simp] theorem State.acknowledge_dma (s : State) (n : IntSource) : (s.acknowledge n).dma = s.dma := rfl
@[simp] theorem State.acknowledge_ppu (s : State) (n : IntSource) : (s.acknowledge n).ppu = s.ppu := rfl
@[simp] theorem State.acknowledge_apu (s : State) (n : IntSource) : (s.acknowledge n).apu = s.apu := rfl
@[simp] theorem State.acknowledge_pad (s : State) (n : IntSource) : (s.acknowledge n).pad = s.pad := rfl
@[simp] theorem State.acknowledge_sched (s : State) (n : IntSource) : (s.acknowledge n).sched = s.sched := rfl
@[simp] theorem State.acknowledge_launch (s : State) (n : IntSource) : (s.acknowledge n).launch = s.launch := rfl
@[simp] theorem State.acknowledge_opAddr (s : State) (n : IntSource) : (s.acknowledge n).opAddr = s.opAddr := rfl
@[simp] theorem State.acknowledge_cyc (s : State) (n : IntSource) : (s.acknowledge n).cyc = s.cyc := rfl
@[simp] theorem State.acknowledge_draws (s : State) (n : IntSource) : (s.acknowledge n).draws = s.draws := rfl

/-! ### Updates defined by a case split -/

@[simp] theorem State.raiseIf_regs (s : State) (c : Bool) (n : IntSource) :
    (s.raiseIf c n).regs = s.regs := by cases c <;> rfl
@[simp] theorem State.raiseIf_flags (s : State) (c : Bool) (n : IntSource) :
    (s.raiseIf c n).flags = s.flags := by cases c <;> rfl
@[simp] theorem State.raiseIf_pc (s : State) (c : Bool) (n : IntSource) :
    (s.raiseIf c n).pc = s.pc := by cases c <;> rfl
@[simp] theorem State.raiseIf_sp (s : State) (c : Bool) (n : IntSource) :
    (s.raiseIf c n).sp = s.sp := by cases c <;> rfl
@[simp] theorem State.raiseIf_ie (s : State) (c : Bool) (n : IntSource) :
    (s.raiseIf c n).ie = s.ie := by cases c <;> rfl
@[simp] theorem State.raiseIf_iflag (s : State) (c : Bool) (n : IntSource) :
    (s.raiseIf c n).iflag = if c then s.iflag ||| n.mask else s.iflag := by cases c <;> rfl
@[simp] theorem State.raiseIf_ime (s : State) (c : Bool) (n : IntSource) :
    (s.raiseIf c n).ime = s.ime := by cases c <;> rfl
@[simp] theorem State.raiseIf_imePending (s : State) (c : Bool) (n : IntSource) :
    (s.raiseIf c n).imePending = s.imePending := by cases c <;> rfl
@[simp] theorem State.raiseIf_halted (s : State) (c : Bool) (n : IntSource) :
    (s.raiseIf c n).halted = s.halted := by cases c <;> rfl
@[simp] theorem State.raiseIf_doubleSpeed (s : State) (c : Bool) (n : IntSource) :
    (s.raiseIf c n).doubleSpeed = s.doubleSpeed := by cases c <;> rfl
@[simp] theorem State.raiseIf_speedArmed (s : State) (c : Bool) (n : IntSource) :
    (s.raiseIf c n).speedArmed = s.speedArmed := by cases c <;> rfl
@[simp] theorem State.raiseIf_haltBugLatch (s : State) (c : Bool) (n : IntSource) :
    (s.raiseIf c n).haltBugLatch = s.haltBugLatch := by cases c <;> rfl
@[simp] theorem State.raiseIf_fault (s : State) (c : Bool) (n : IntSource) :
    (s.raiseIf c n).fault = s.fault := by cases c <;> rfl
@[simp] theorem State.raiseIf_mem (s : State) (c : Bool) (n : IntSource) :
    (s.raiseIf c n).mem = s.mem := by cases c <;> rfl
@[simp] theorem State.raiseIf_cart (s : State) (c : Bool) (n : IntSource) :
    (s.raiseIf c n).cart = s.cart := by cases c <;> rfl
@[simp] theorem State.raiseIf_timer (s : State) (c : Bool) (n : IntSource) :
    (s.raiseIf c n).timer = s.timer := by cases c <;> rfl
@[simp] theorem State.raiseIf_dma (s : State) (c : Bool) (n : IntSource) :
    (s.raiseIf c n).dma = s.dma := by cases c <;> rfl
@[simp] theorem State.raiseIf_ppu (s : State) (c : Bool) (n : IntSource) :
    (s.raiseIf c n).ppu = s.ppu := by cases c <;> rfl
@[simp] theorem State.raiseIf_apu (s : State) (c : Bool) (n : IntSource) :
    (s.raiseIf c n).apu = s.apu := by cases c <;> rfl
@[simp] theorem State.raiseIf_pad (s : State) (c : Bool) (n : IntSource) :
    (s.raiseIf c n).pad = s.pad := by cases c <;> rfl
@[simp] theorem State.raiseIf_sched (s : State) (c : Bool) (n : IntSource) :
    (s.raiseIf c n).sched = s.sched := by cases c <;> rfl
@[simp] theorem State.raiseIf_launch (s : State) (c : Bool) (n : IntSource) :
    (s.raiseIf c n).launch = s.launch := by cases c <;> rfl
@[simp] theorem State.raiseIf_opAddr (s : State) (c : Bool) (n : IntSource) :
    (s.raiseIf c n).opAddr = s.opAddr := by cases c <;> rfl
@[simp] theorem State.raiseIf_cyc (s : State) (c : Bool) (n : IntSource) :
    (s.raiseIf c n).cyc = s.cyc := by cases c <;> rfl
@[simp] theorem State.raiseIf_draws (s : State) (c : Bool) (n : IntSource) :
    (s.raiseIf c n).draws = s.draws := by cases c <;> rfl
@[simp] theorem State.setPair_flags (s : State) (p : RegPair) (v : Word) :
    (s.setPair p v).flags = s.flags := by cases p <;> rfl
@[simp] theorem State.setPair_pc (s : State) (p : RegPair) (v : Word) :
    (s.setPair p v).pc = s.pc := by cases p <;> rfl
@[simp] theorem State.setPair_ie (s : State) (p : RegPair) (v : Word) :
    (s.setPair p v).ie = s.ie := by cases p <;> rfl
@[simp] theorem State.setPair_iflag (s : State) (p : RegPair) (v : Word) :
    (s.setPair p v).iflag = s.iflag := by cases p <;> rfl
@[simp] theorem State.setPair_ime (s : State) (p : RegPair) (v : Word) :
    (s.setPair p v).ime = s.ime := by cases p <;> rfl
@[simp] theorem State.setPair_imePending (s : State) (p : RegPair) (v : Word) :
    (s.setPair p v).imePending = s.imePending := by cases p <;> rfl
@[simp] theorem State.setPair_halted (s : State) (p : RegPair) (v : Word) :
    (s.setPair p v).halted = s.halted := by cases p <;> rfl
@[simp] theorem State.setPair_doubleSpeed (s : State) (p : RegPair) (v : Word) :
    (s.setPair p v).doubleSpeed = s.doubleSpeed := by cases p <;> rfl
@[simp] theorem State.setPair_speedArmed (s : State) (p : RegPair) (v : Word) :
    (s.setPair p v).speedArmed = s.speedArmed := by cases p <;> rfl
@[simp] theorem State.setPair_haltBugLatch (s : State) (p : RegPair) (v : Word) :
    (s.setPair p v).haltBugLatch = s.haltBugLatch := by cases p <;> rfl
@[simp] theorem State.setPair_fault (s : State) (p : RegPair) (v : Word) :
    (s.setPair p v).fault = s.fault := by cases p <;> rfl
@[simp] theorem State.setPair_mem (s : State) (p : RegPair) (v : Word) :
    (s.setPair p v).mem = s.mem := by cases p <;> rfl
@[simp] theorem State.setPair_cart (s : State) (p : RegPair) (v : Word) :
    (s.setPair p v).cart = s.cart := by cases p <;> rfl
@[simp] theorem State.setPair_timer (s : State) (p : RegPair) (v : Word) :
    (s.setPair p v).timer = s.timer := by cases p <;> rfl
@[simp] theorem State.setPair_dma (s : State) (p : RegPair) (v : Word) :
    (s.setPair p v).dma = s.dma := by cases p <;> rfl
@[simp] theorem State.setPair_ppu (s : State) (p : RegPair) (v : Word) :
    (s.setPair p v).ppu = s.ppu := by cases p <;> rfl
@[simp] theorem State.setPair_apu (s : State) (p : RegPair) (v : Word) :
    (s.setPair p v).apu = s.apu := by cases p <;> rfl
@[simp] theorem State.setPair_pad (s : State) (p : RegPair) (v : Word) :
    (s.setPair p v).pad = s.pad := by cases p <;> rfl
@[simp] theorem State.setPair_sched (s : State) (p : RegPair) (v : Word) :
    (s.setPair p v).sched = s.sched := by cases p <;> rfl
@[simp] theorem State.setPair_launch (s : State) (p : RegPair) (v : Word) :
    (s.setPair p v).launch = s.launch := by cases p <;> rfl
@[simp] theorem State.setPair_opAddr (s : State) (p : RegPair) (v : Word) :
    (s.setPair p v).opAddr = s.opAddr := by cases p <;> rfl
@[simp] theorem State.setPair_cyc (s : State) (p : RegPair) (v : Word) :
    (s.setPair p v).cyc = s.cyc := by cases p <;> rfl
@[simp] theorem State.setPair_draws (s : State) (p : RegPair) (v : Word) :
    (s.setPair p v).draws = s.draws := by cases p <;> rfl
@[simp] theorem State.setStackPair_pc (s : State) (p : StackPair) (v : Word) :
    (s.setStackPair p v).pc = s.pc := by cases p <;> rfl
@[simp] theorem State.setStackPair_sp (s : State) (p : StackPair) (v : Word) :
    (s.setStackPair p v).sp = s.sp := by cases p <;> rfl
@[simp] theorem State.setStackPair_ie (s : State) (p : StackPair) (v : Word) :
    (s.setStackPair p v).ie = s.ie := by cases p <;> rfl
@[simp] theorem State.setStackPair_iflag (s : State) (p : StackPair) (v : Word) :
    (s.setStackPair p v).iflag = s.iflag := by cases p <;> rfl
@[simp] theorem State.setStackPair_ime (s : State) (p : StackPair) (v : Word) :
    (s.setStackPair p v).ime = s.ime := by cases p <;> rfl
@[simp] theorem State.setStackPair_imePending (s : State) (p : StackPair) (v : Word) :
    (s.setStackPair p v).imePending = s.imePending := by cases p <;> rfl
@[simp] theorem State.setStackPair_halted (s : State) (p : StackPair) (v : Word) :
    (s.setStackPair p v).halted = s.halted := by cases p <;> rfl
@[simp] theorem State.setStackPair_doubleSpeed (s : State) (p : StackPair) (v : Word) :
    (s.setStackPair p v).doubleSpeed = s.doubleSpeed := by cases p <;> rfl
@[simp] theorem State.setStackPair_speedArmed (s : State) (p : StackPair) (v : Word) :
    (s.setStackPair p v).speedArmed = s.speedArmed := by cases p <;> rfl
@[simp] theorem State.setStackPair_haltBugLatch (s : State) (p : StackPair) (v : Word) :
    (s.setStackPair p v).haltBugLatch = s.haltBugLatch := by cases p <;> rfl
@[simp] theorem State.setStackPair_fault (s : State) (p : StackPair) (v : Word) :
    (s.setStackPair p v).fault = s.fault := by cases p <;> rfl
@[simp] theorem State.setStackPair_mem (s : State) (p : StackPair) (v : Word) :
    (s.setStackPair p v).mem = s.mem := by cases p <;> rfl
@[simp] theorem State.setStackPair_cart (s : State) (p : StackPair) (v : Word) :
    (s.setStackPair p v).cart = s.cart := by cases p <;> rfl
@[simp] theorem State.setStackPair_timer (s : State) (p : StackPair) (v : Word) :
    (s.setStackPair p v).timer = s.timer := by cases p <;> rfl
@[simp] theorem State.setStackPair_dma (s : State) (p : StackPair) (v : Word) :
    (s.setStackPair p v).dma = s.dma := by cases p <;> rfl
@[simp] theorem State.setStackPair_ppu (s : State) (p : StackPair) (v : Word) :
    (s.setStackPair p v).ppu = s.ppu := by cases p <;> rfl
@[simp] theorem State.setStackPair_apu (s : State) (p : StackPair) (v : Word) :
    (s.setStackPair p v).apu = s.apu := by cases p <;> rfl
@[simp] theorem State.setStackPair_pad (s : State) (p : StackPair) (v : Word) :
    (s.setStackPair p v).pad = s.pad := by cases p <;> rfl
@[simp] theorem State.setStackPair_sched (s : State) (p : StackPair) (v : Word) :
    (s.setStackPair p v).sched = s.sched := by cases p <;> rfl
@[simp] theorem State.setStackPair_launch (s : State) (p : StackPair) (v : Word) :
    (s.setStackPair p v).launch = s.launch := by cases p <;> rfl
@[simp] theorem State.setStackPair_opAddr (s : State) (p : StackPair) (v : Word) :
    (s.setStackPair p v).opAddr = s.opAddr := by cases p <;> rfl
@[simp] theorem State.setStackPair_cyc (s : State) (p : StackPair) (v : Word) :
    (s.setStackPair p v).cyc = s.cyc := by cases p <;> rfl
@[simp] theorem State.setStackPair_draws (s : State) (p : StackPair) (v : Word) :
    (s.setStackPair p v).draws = s.draws := by cases p <;> rfl

/-! ### Registers -/

@[simp] theorem Regs.get_set_same (g : Regs) (r : Reg8) (v : Byte) : (g.set r v).get r = v := by cases r <;> rfl

theorem Regs.get_set_other (g : Regs) (r q : Reg8) (v : Byte) (h : q ≠ r) : (g.set r v).get q = g.get q := by
  cases r <;> cases q <;> first | rfl | exact absurd rfl h

@[simp] theorem State.reg_setReg_same (s : State) (r : Reg8) (v : Byte) : (s.setReg r v).reg r = v := by
  simp [State.reg]

theorem State.reg_setReg_other (s : State) (r q : Reg8) (v : Byte) (h : q ≠ r) : (s.setReg r v).reg q = s.reg q := by
  simp [State.reg, Regs.get_set_other, h]

theorem getLsbD_word (hi lo : Byte) (i : Nat) :
    (word hi lo).getLsbD i = if i < 8 then lo.getLsbD i else hi.getLsbD (i - 8) := by
  have h := BitVec.getLsbD_append (x := hi) (y := lo) (i := i)
  exact h.trans (by by_cases hi : i < 8 <;> simp [hi])

@[simp] theorem hiByte_word (hi lo : Byte) : hiByte (word hi lo) = hi := by
  apply BitVec.eq_of_getLsbD_eq; intro i h
  simp [hiByte, getLsbD_word, h]

@[simp] theorem loByte_word (hi lo : Byte) : loByte (word hi lo) = lo := by
  apply BitVec.eq_of_getLsbD_eq; intro i h
  simp [loByte, getLsbD_word, h]

@[simp] theorem word_bytes (v : Word) : word (hiByte v) (loByte v) = v := by
  apply BitVec.eq_of_getLsbD_eq; intro i h
  rw [getLsbD_word]
  by_cases h8 : i < 8
  · simp [loByte, h8]
  · simp only [hiByte, BitVec.getLsbD_extractLsb', h8, if_false]
    rw [show 8 + (i - 8) = i by omega, decide_eq_true (by omega), Bool.true_and]

@[simp] theorem Flags.ofByte_toByte (f : Flags) : Flags.ofByte f.toByte = f := by
  obtain ⟨z, n, h, cy⟩ := f
  revert z n h cy; decide

/-- F bits 3 to 0 read 0, 10_state.md R32. -/
theorem Flags.toByte_low (f : Flags) : f.toByte &&& 0x0F#8 = 0#8 := by
  obtain ⟨z, n, h, cy⟩ := f
  revert z n h cy; decide

/-! ### Register pairs -/

@[simp] theorem State.hl_setHL (s : State) (v : Word) : (s.setHL v).hl = v := by
  simp [State.hl, Regs.set]

@[simp] theorem State.bc_setBC (s : State) (v : Word) : (s.setBC v).bc = v := by
  simp [State.bc, Regs.set]

@[simp] theorem State.de_setDE (s : State) (v : Word) : (s.setDE v).de = v := by
  simp [State.de, Regs.set]

@[simp] theorem State.pair_setPair (s : State) (p : RegPair) (v : Word) : (s.setPair p v).pair p = v := by
  cases p <;> simp [State.pair, State.setPair]

end Sys2Proof.Machine
end

