-- ==== Sys2Proof/Laws/Ops.lean ====
section
/-! SUPPORT. What each shared operation can do, said once: the inversion of a memory access, the fields an access leaves
alone, and when two states read the same through the address map. -/

namespace Sys2Proof.Machine

/-! ### Sequencing -/

@[simp] theorem andThen_next (s : State) (k : State → Result) : andThen (.next s) k = k s := rfl

@[simp] theorem andThen_fault (f : Fault) (k : State → Result) : andThen (.fault f) k = .fault f := rfl

@[simp] theorem withValue_ok {α : Type} (v : α) (s : State) (k : α → State → Result) :
    withValue (.ok v s) k = k v s := rfl

@[simp] theorem withValue_fault {α : Type} (f : Fault) (k : α → State → Result) :
    withValue (.fault f) k = .fault f := rfl

theorem andThen_eq_next {r : Result} {k : State → Result} {t : State} (h : andThen r k = .next t) :
    ∃ s, r = .next s ∧ k s = .next t := by
  cases r with
  | next s => exact ⟨s, rfl, h⟩
  | fault f => cases h
  | refused q => cases h

theorem withValue_eq_next {α : Type} {x : Access α} {k : α → State → Result} {t : State}
    (h : withValue x k = .next t) : ∃ v s, x = .ok v s ∧ k v s = .next t := by
  cases x with
  | ok v s => exact ⟨v, s, rfl, h⟩
  | fault f => cases h

/-! ### Reads -/

theorem memRead_ok {addr : Word} {s : State} (h : readFault addr s = none) :
    memRead addr s = .ok (readByte addr s) s.countRead := by simp [memRead, h]

theorem memRead_fault {addr : Word} {s : State} {r : FaultReason} (h : readFault addr s = some r) :
    memRead addr s = .fault (raiseFault r s) := by simp [memRead, h]

theorem memRead_eq_ok {addr : Word} {s t : State} {v : Byte} (h : memRead addr s = .ok v t) :
    readFault addr s = none ∧ v = readByte addr s ∧ t = s.countRead := by
  unfold memRead at h
  split at h
  · cases h
  · rename_i hr
    cases h
    exact ⟨hr, rfl, rfl⟩

theorem busRead_eq_ok {addr : Word} {s t : State} {v : Byte} (h : busRead addr s = .ok v t) :
    busReadFault addr s = none ∧ v = busByte addr s ∧ t = s.countRead := by
  unfold busRead at h
  split at h
  · cases h
  · rename_i hr
    cases h
    exact ⟨hr, rfl, rfl⟩

/-! ### Writes -/

theorem memWrite_next {addr : Word} {v : Byte} {s : State} (h : writeFault addr v s = none) :
    memWrite addr v s = .next (writeByte addr v s) := by simp [memWrite, h]

theorem memWrite_fault {addr : Word} {v : Byte} {s : State} {r : FaultReason} (h : writeFault addr v s = some r) :
    memWrite addr v s = .fault (raiseFault r s) := by simp [memWrite, h]

theorem memWrite_eq_next {addr : Word} {v : Byte} {s t : State} (h : memWrite addr v s = .next t) :
    writeFault addr v s = none ∧ t = writeByte addr v s := by
  unfold memWrite at h
  split at h
  · cases h
  · rename_i hr
    cases h
    exact ⟨hr, rfl⟩

/-- A push that completes is two byte writes below sp, the high byte first. -/
theorem push16_eq_next {v : Word} {s t : State} (h : push16 v s = .next t) :
    ∃ u, writeFault (s.sp - 1) (hiByte v) (s.setSp (s.sp - 1)) = none ∧
      u = writeByte (s.sp - 1) (hiByte v) (s.setSp (s.sp - 1)) ∧
      writeFault (u.sp - 1) (loByte v) (u.setSp (u.sp - 1)) = none ∧
      t = writeByte (u.sp - 1) (loByte v) (u.setSp (u.sp - 1)) := by
  obtain ⟨u, h1, h2⟩ := andThen_eq_next h
  obtain ⟨a1, a2⟩ := memWrite_eq_next h1
  obtain ⟨b1, b2⟩ := memWrite_eq_next h2
  exact ⟨u, a1, a2, b1, b2⟩

theorem pop8_eq_ok {s t : State} {v : Byte} (h : pop8 s = .ok v t) :
    readFault s.sp s = none ∧ v = readByte s.sp s ∧ t = s.countRead.setSp (s.sp + 1) := by
  unfold pop8 at h
  split at h
  · rename_i hr
    cases h
    obtain ⟨a, b, c⟩ := memRead_eq_ok hr
    subst c
    exact ⟨a, b, rfl⟩
  · cases h

theorem pop8_ok {s : State} (h : readFault s.sp s = none) :
    pop8 s = .ok (readByte s.sp s) (s.countRead.setSp (s.sp + 1)) := by simp [pop8, memRead_ok h]

/-- A pop that completes is two byte reads at sp, the low byte first. -/
theorem pop16_eq_ok {s t : State} {v : Word} (h : pop16 s = .ok v t) :
    ∃ u, u = s.countRead.setSp (s.sp + 1) ∧ readFault s.sp s = none ∧ readFault u.sp u = none ∧
      v = word (readByte u.sp u) (readByte s.sp s) ∧ t = u.countRead.setSp (u.sp + 1) := by
  unfold pop16 at h
  split at h
  · cases h
  · rename_i lo u h1
    split at h
    · cases h
    · rename_i hi w h2
      cases h
      obtain ⟨a, b, c⟩ := pop8_eq_ok h1
      obtain ⟨d, e, f⟩ := pop8_eq_ok h2
      exact ⟨u, c, a, d, by rw [b, e], f⟩

/-! ### What two states must share to read the same -/

/-- `locate` looks at nothing but the launch parameters, VBK and the cartridge. -/
theorem locate_congr {s t : State} (hl : t.launch = s.launch) (hv : t.ppu.vbk = s.ppu.vbk) (hc : t.cart = s.cart)
    (addr : Word) : locate t addr = locate s addr := by
  unfold locate State.vramBank
  rw [hl, hv, hc]

/-- The state parts a read through the address map can see. -/
def State.sameBus (s t : State) : Prop :=
  t.mem = s.mem ∧ t.cart = s.cart ∧ t.timer = s.timer ∧ t.dma = s.dma ∧ t.ppu = s.ppu ∧ t.apu = s.apu ∧
    t.pad = s.pad ∧ t.ie = s.ie ∧ t.iflag = s.iflag ∧ t.doubleSpeed = s.doubleSpeed ∧ t.speedArmed = s.speedArmed ∧
    t.launch = s.launch

theorem ioRead_congr {s t : State} (h : s.sameBus t) (r : IoReg) (d : Byte) : ioRead r d t = ioRead r d s := by
  obtain ⟨h1, h2, h3, h4, h5, h6, h7, h8, h9, h10, h11, h12⟩ := h
  unfold ioRead State.cell
  rw [h1, h3, h4, h5, h6, h7, h9, h10, h11]

/-- States that share the bus read the same at every address. -/
theorem peek_congr {s t : State} (h : s.sameBus t) (d : Byte) (addr : Word) : peek d addr t = peek d addr s := by
  have hl : locate t addr = locate s addr :=
    locate_congr h.2.2.2.2.2.2.2.2.2.2.2 (by rw [h.2.2.2.2.1]) h.2.1 addr
  unfold peek
  rw [hl]
  split <;> first | rfl | exact ioRead_congr h _ d | (unfold State.cell; rw [h.1]) | (rw [h.2.1]) |
    (rw [h.2.2.2.2.2.2.2.1])

theorem restricted_congr {s t : State} (hl : t.launch = s.launch) (hd : t.dma = s.dma) (hp : t.ppu = s.ppu)
    (addr : Word) : restricted addr t = restricted addr s := by
  unfold restricted dmaHolds ppuHolds
  rw [hl, hd, hp]

theorem readFault_congr {s t : State} (h : s.sameBus t) (addr : Word) : readFault addr t = readFault addr s := by
  unfold readFault busReadFault
  rw [restricted_congr h.2.2.2.2.2.2.2.2.2.2.2 h.2.2.2.1 h.2.2.2.2.1,
    locate_congr h.2.2.2.2.2.2.2.2.2.2.2 (by rw [h.2.2.2.2.1]) h.2.1]

/-- With the same draws to come, states that share the bus give the same byte. -/
theorem readByte_congr {s t : State} (h : s.sameBus t) (hd : t.draws = s.draws) (addr : Word) :
    readByte addr t = readByte addr s := by
  unfold readByte State.draw
  rw [restricted_congr h.2.2.2.2.2.2.2.2.2.2.2 h.2.2.2.1 h.2.2.2.2.1, peek_congr h, hd]

theorem writeFault_congr {s t : State} (h : s.sameBus t) (addr : Word) (v : Byte) :
    writeFault addr v t = writeFault addr v s := by
  unfold writeFault
  rw [restricted_congr h.2.2.2.2.2.2.2.2.2.2.2 h.2.2.2.1 h.2.2.2.2.1,
    locate_congr h.2.2.2.2.2.2.2.2.2.2.2 (by rw [h.2.2.2.2.1]) h.2.1]

end Sys2Proof.Machine
end

