-- ==== Sys2Proof/Laws/Write.lean ====
section
/-! SUPPORT. What a write through the address map leaves alone. -/

namespace Sys2Proof.Machine

/-! ### Fields no write changes -/

theorem ioWrite_regs (r : IoReg) (v : Byte) (s : State) : (ioWrite r v s).regs = s.regs := by
  unfold ioWrite; split <;> rfl

@[simp] theorem poke_regs (addr : Word) (v : Byte) (s : State) : (poke addr v s).regs = s.regs := by
  unfold poke; split <;> first | rfl | exact ioWrite_regs _ v s

@[simp] theorem writeByte_regs (addr : Word) (v : Byte) (s : State) : (writeByte addr v s).regs = s.regs := by
  unfold writeByte; split <;> simp

theorem ioWrite_flags (r : IoReg) (v : Byte) (s : State) : (ioWrite r v s).flags = s.flags := by
  unfold ioWrite; split <;> rfl

@[simp] theorem poke_flags (addr : Word) (v : Byte) (s : State) : (poke addr v s).flags = s.flags := by
  unfold poke; split <;> first | rfl | exact ioWrite_flags _ v s

@[simp] theorem writeByte_flags (addr : Word) (v : Byte) (s : State) : (writeByte addr v s).flags = s.flags := by
  unfold writeByte; split <;> simp

theorem ioWrite_pc (r : IoReg) (v : Byte) (s : State) : (ioWrite r v s).pc = s.pc := by
  unfold ioWrite; split <;> rfl

@[simp] theorem poke_pc (addr : Word) (v : Byte) (s : State) : (poke addr v s).pc = s.pc := by
  unfold poke; split <;> first | rfl | exact ioWrite_pc _ v s

@[simp] theorem writeByte_pc (addr : Word) (v : Byte) (s : State) : (writeByte addr v s).pc = s.pc := by
  unfold writeByte; split <;> simp

theorem ioWrite_sp (r : IoReg) (v : Byte) (s : State) : (ioWrite r v s).sp = s.sp := by
  unfold ioWrite; split <;> rfl

@[simp] theorem poke_sp (addr : Word) (v : Byte) (s : State) : (poke addr v s).sp = s.sp := by
  unfold poke; split <;> first | rfl | exact ioWrite_sp _ v s

@[simp] theorem writeByte_sp (addr : Word) (v : Byte) (s : State) : (writeByte addr v s).sp = s.sp := by
  unfold writeByte; split <;> simp

theorem ioWrite_ime (r : IoReg) (v : Byte) (s : State) : (ioWrite r v s).ime = s.ime := by
  unfold ioWrite; split <;> rfl

@[simp] theorem poke_ime (addr : Word) (v : Byte) (s : State) : (poke addr v s).ime = s.ime := by
  unfold poke; split <;> first | rfl | exact ioWrite_ime _ v s

@[simp] theorem writeByte_ime (addr : Word) (v : Byte) (s : State) : (writeByte addr v s).ime = s.ime := by
  unfold writeByte; split <;> simp

theorem ioWrite_imePending (r : IoReg) (v : Byte) (s : State) : (ioWrite r v s).imePending = s.imePending := by
  unfold ioWrite; split <;> rfl

@[simp] theorem poke_imePending (addr : Word) (v : Byte) (s : State) : (poke addr v s).imePending = s.imePending := by
  unfold poke; split <;> first | rfl | exact ioWrite_imePending _ v s

@[simp] theorem writeByte_imePending (addr : Word) (v : Byte) (s : State) : (writeByte addr v s).imePending = s.imePending := by
  unfold writeByte; split <;> simp

theorem ioWrite_halted (r : IoReg) (v : Byte) (s : State) : (ioWrite r v s).halted = s.halted := by
  unfold ioWrite; split <;> rfl

@[simp] theorem poke_halted (addr : Word) (v : Byte) (s : State) : (poke addr v s).halted = s.halted := by
  unfold poke; split <;> first | rfl | exact ioWrite_halted _ v s

@[simp] theorem writeByte_halted (addr : Word) (v : Byte) (s : State) : (writeByte addr v s).halted = s.halted := by
  unfold writeByte; split <;> simp

theorem ioWrite_doubleSpeed (r : IoReg) (v : Byte) (s : State) : (ioWrite r v s).doubleSpeed = s.doubleSpeed := by
  unfold ioWrite; split <;> rfl

@[simp] theorem poke_doubleSpeed (addr : Word) (v : Byte) (s : State) : (poke addr v s).doubleSpeed = s.doubleSpeed := by
  unfold poke; split <;> first | rfl | exact ioWrite_doubleSpeed _ v s

@[simp] theorem writeByte_doubleSpeed (addr : Word) (v : Byte) (s : State) : (writeByte addr v s).doubleSpeed = s.doubleSpeed := by
  unfold writeByte; split <;> simp

theorem ioWrite_haltBugLatch (r : IoReg) (v : Byte) (s : State) : (ioWrite r v s).haltBugLatch = s.haltBugLatch := by
  unfold ioWrite; split <;> rfl

@[simp] theorem poke_haltBugLatch (addr : Word) (v : Byte) (s : State) : (poke addr v s).haltBugLatch = s.haltBugLatch := by
  unfold poke; split <;> first | rfl | exact ioWrite_haltBugLatch _ v s

@[simp] theorem writeByte_haltBugLatch (addr : Word) (v : Byte) (s : State) : (writeByte addr v s).haltBugLatch = s.haltBugLatch := by
  unfold writeByte; split <;> simp

theorem ioWrite_fault (r : IoReg) (v : Byte) (s : State) : (ioWrite r v s).fault = s.fault := by
  unfold ioWrite; split <;> rfl

@[simp] theorem poke_fault (addr : Word) (v : Byte) (s : State) : (poke addr v s).fault = s.fault := by
  unfold poke; split <;> first | rfl | exact ioWrite_fault _ v s

@[simp] theorem writeByte_fault (addr : Word) (v : Byte) (s : State) : (writeByte addr v s).fault = s.fault := by
  unfold writeByte; split <;> simp

theorem ioWrite_launch (r : IoReg) (v : Byte) (s : State) : (ioWrite r v s).launch = s.launch := by
  unfold ioWrite; split <;> rfl

@[simp] theorem poke_launch (addr : Word) (v : Byte) (s : State) : (poke addr v s).launch = s.launch := by
  unfold poke; split <;> first | rfl | exact ioWrite_launch _ v s

@[simp] theorem writeByte_launch (addr : Word) (v : Byte) (s : State) : (writeByte addr v s).launch = s.launch := by
  unfold writeByte; split <;> simp

theorem ioWrite_opAddr (r : IoReg) (v : Byte) (s : State) : (ioWrite r v s).opAddr = s.opAddr := by
  unfold ioWrite; split <;> rfl

@[simp] theorem poke_opAddr (addr : Word) (v : Byte) (s : State) : (poke addr v s).opAddr = s.opAddr := by
  unfold poke; split <;> first | rfl | exact ioWrite_opAddr _ v s

@[simp] theorem writeByte_opAddr (addr : Word) (v : Byte) (s : State) : (writeByte addr v s).opAddr = s.opAddr := by
  unfold writeByte; split <;> simp

theorem ioWrite_cyc (r : IoReg) (v : Byte) (s : State) : (ioWrite r v s).cyc = s.cyc := by
  unfold ioWrite; split <;> rfl

@[simp] theorem poke_cyc (addr : Word) (v : Byte) (s : State) : (poke addr v s).cyc = s.cyc := by
  unfold poke; split <;> first | rfl | exact ioWrite_cyc _ v s

@[simp] theorem writeByte_cyc (addr : Word) (v : Byte) (s : State) : (writeByte addr v s).cyc = s.cyc := by
  unfold writeByte; split <;> simp

theorem ioWrite_draws (r : IoReg) (v : Byte) (s : State) : (ioWrite r v s).draws = s.draws := by
  unfold ioWrite; split <;> rfl

@[simp] theorem poke_draws (addr : Word) (v : Byte) (s : State) : (poke addr v s).draws = s.draws := by
  unfold poke; split <;> first | rfl | exact ioWrite_draws _ v s

@[simp] theorem writeByte_draws (addr : Word) (v : Byte) (s : State) : (writeByte addr v s).draws = s.draws := by
  unfold writeByte; split <;> simp

/-! ### Storage -/

/-- The one storage cell a write at `addr` may change. -/
def storeKey (addr : Word) (s : State) : Option Nat :=
  match locate s addr with
  | .ram key => some key
  | .nibble key => some key
  | .soundUnused key => some key
  | .io .bcpd => some (Key.bgPal s.ppu.bcps.index.toNat)
  | .io .ocpd => some (Key.objPal s.ppu.ocps.index.toNat)
  | _ => none

theorem ioWrite_mem (r : IoReg) (v : Byte) (s : State) :
    (ioWrite r v s).mem = s.mem ∨
      ∃ key, (r = .bcpd ∧ key = Key.bgPal s.ppu.bcps.index.toNat ∨ r = .ocpd ∧ key = Key.objPal s.ppu.ocps.index.toNat) ∧
        (ioWrite r v s).mem = Memory.write s.mem key v := by
  unfold ioWrite
  split <;> first
    | exact .inl rfl
    | exact .inr ⟨_, .inl ⟨rfl, rfl⟩, rfl⟩
    | exact .inr ⟨_, .inr ⟨rfl, rfl⟩, rfl⟩

/-- A write leaves every cell but one alone. -/
theorem poke_cell_other {addr : Word} {v : Byte} {s : State} {key : Nat} (h : storeKey addr s ≠ some key) :
    (poke addr v s).cell key = s.cell key := by
  unfold State.cell
  unfold storeKey at h
  unfold poke
  split
  · rfl
  · rename_i k hl
    rw [hl] at h
    exact Memory.read_write_other v (fun he => h (by rw [he]))
  · rename_i k hl
    rw [hl] at h
    exact Memory.read_write_other _ (fun he => h (by rw [he]))
  · rfl
  · rfl
  · rfl
  · rename_i r hl
    rw [hl] at h
    rcases ioWrite_mem r v s with hm | ⟨k, ⟨rfl, hk⟩ | ⟨rfl, hk⟩, hm⟩
    · rw [hm]
    · rw [hm]
      exact Memory.read_write_other v (fun he => h (by rw [he, hk]))
    · rw [hm]
      exact Memory.read_write_other v (fun he => h (by rw [he, hk]))
  · rename_i k hl
    rw [hl] at h
    exact Memory.read_write_other v (fun he => h (by rw [he]))
  · rfl
  · rfl

theorem writeByte_cell_other {addr : Word} {v : Byte} {s : State} {key : Nat} (h : storeKey addr s ≠ some key) :
    (writeByte addr v s).cell key = s.cell key := by
  unfold writeByte
  split
  · rfl
  · exact poke_cell_other h

/-- A write keeps the canonical form. -/
theorem poke_wf {addr : Word} {v : Byte} {s : State} (h : Memory.wf s.mem = true) :
    Memory.wf (poke addr v s).mem = true := by
  unfold poke
  split
  · exact h
  · exact Memory.wf_write _ _ h
  · exact Memory.wf_write _ _ h
  · exact h
  · exact h
  · exact h
  · rename_i r hl
    rcases ioWrite_mem r v s with hm | ⟨k, _, hm⟩
    · rw [hm]; exact h
    · rw [hm]; exact Memory.wf_write _ _ h
  · exact Memory.wf_write _ _ h
  · exact h
  · exact h

theorem writeByte_wf {addr : Word} {v : Byte} {s : State} (h : Memory.wf s.mem = true) :
    Memory.wf (writeByte addr v s).mem = true := by
  unfold writeByte
  split
  · exact h
  · exact poke_wf h

end Sys2Proof.Machine
end

