-- ==== Sys2Proof/Laws/Closed.lean ====
section
/-! SUPPORT. Invariants: a property that a few elementary changes keep is kept by every instruction and by every step. To
prove an invariant one proves `CoreClosed` and `DeviceClosed` of it and cites `step_keeps`; no proof opens the dispatch. -/

namespace Sys2Proof.Machine

/-- The next state of a result, if there is one, has the property. -/
def Keeps (P : State → Prop) (r : Result) : Prop := ∀ t, r = .next t → P t

theorem keeps_next {P : State → Prop} {s : State} (h : P s) : Keeps P (.next s) := by
  intro t ht; cases ht; exact h

theorem keeps_fault {P : State → Prop} (f : Fault) : Keeps P (.fault f) := by intro t ht; cases ht

theorem keeps_andThen {P Q : State → Prop} {r : Result} {k : State → Result} (h : Keeps P r)
    (hk : ∀ s, P s → Keeps Q (k s)) : Keeps Q (andThen r k) := by
  intro t ht
  obtain ⟨s, h1, h2⟩ := andThen_eq_next ht
  exact hk s (h s h1) t h2

theorem keeps_withValue {α : Type} {P Q : State → Prop} {x : Access α} {k : α → State → Result}
    (h : ∀ v s, x = .ok v s → P s) (hk : ∀ v s, P s → Keeps Q (k v s)) : Keeps Q (withValue x k) := by
  intro t ht
  obtain ⟨v, s, h1, h2⟩ := withValue_eq_next ht
  exact hk v s (h v s h1) t h2

/-- Everything phases 0 to 2 can do to a state, one elementary change at a time. -/
structure CoreClosed (P : State → Prop) : Prop where
  /-- the registers, the control bits and the model's counters may take any value -/
  core : ∀ s g f pc sp ime imePending halted opAddr cyc draws, P s →
    P { s with regs := g, flags := f, pc := pc, sp := sp, ime := ime, imePending := imePending, halted := halted,
               opAddr := opAddr, cyc := cyc, draws := draws }
  /-- interrupt requests may take any value -/
  request : ∀ s v, P s → P { s with iflag := v }
  /-- a fetch clears the latch -/
  unlatch : ∀ s, P s → P { s with haltBugLatch := false }
  /-- HALT sets the latch, only where the HALT bug exists -/
  latch : ∀ s, s.launch.haltBug = true → P s → P { s with haltBugLatch := true }
  /-- a primed STOP -/
  speed : ∀ s, s.launch.colorMode = true → P s → P { s with doubleSpeed := !s.doubleSpeed, speedArmed := false }
  /-- a write that does not fault -/
  write : ∀ s addr v, writeFault addr v s = none → P s → P (writeByte addr v s)

variable {P : State → Prop}

/-- The elementary change of registers, control bits and counters, for a state given by what it is. -/
theorem CoreClosed.core_of (hc : CoreClosed P) {s t : State} (hP : P s)
    (h : t = { s with regs := t.regs, flags := t.flags, pc := t.pc, sp := t.sp, ime := t.ime,
                      imePending := t.imePending, halted := t.halted, opAddr := t.opAddr, cyc := t.cyc,
                      draws := t.draws }) : P t := by
  rw [h]; exact hc.core _ _ _ _ _ _ _ _ _ _ _ hP

theorem CoreClosed.countRead (hc : CoreClosed P) {s : State} (hP : P s) : P s.countRead := hc.core_of hP rfl

theorem CoreClosed.setSp (hc : CoreClosed P) {s : State} {v : Word} (hP : P s) : P (s.setSp v) := hc.core_of hP rfl

theorem memRead_keeps (hc : CoreClosed P) {addr : Word} {s : State} (hP : P s) {v : Byte} {t : State}
    (h : memRead addr s = .ok v t) : P t := by
  obtain ⟨_, _, rfl⟩ := memRead_eq_ok h
  exact hc.countRead hP

theorem memWrite_keeps (hc : CoreClosed P) {addr : Word} {v : Byte} {s : State} (hP : P s) :
    Keeps P (memWrite addr v s) := by
  intro t h
  obtain ⟨h1, rfl⟩ := memWrite_eq_next h
  exact hc.write _ _ _ h1 hP

theorem push16_keeps (hc : CoreClosed P) {v : Word} {s : State} (hP : P s) : Keeps P (push16 v s) :=
  keeps_andThen (memWrite_keeps hc (hc.setSp hP)) fun _ hu => memWrite_keeps hc (hc.setSp hu)

theorem pop16_keeps (hc : CoreClosed P) {s : State} (hP : P s) {v : Word} {t : State} (h : pop16 s = .ok v t) : P t := by
  obtain ⟨u, rfl, _, _, _, rfl⟩ := pop16_eq_ok h
  exact hc.setSp (hc.countRead (hc.setSp (hc.countRead hP)))

/-! ### The shared operations -/

theorem withOperand_keeps (hc : CoreClosed P) {addr : Word} {n : Nat} {k : Byte → State → State} {s : State} (hP : P s)
    (hk : ∀ v t, P t → P ((k v t).spend n)) : Keeps P (withOperand addr n k s) :=
  keeps_withValue (fun _ _ h => memRead_keeps hc hP h) fun v t ht => keeps_next (hk v t ht)

theorem storeOperand_keeps' (hc : CoreClosed P) {addr : Word} {v : Byte} {n : Nat} {k : State → State} {s : State}
    (hP : P s) (hk : ∀ t, P t → P ((k t).spend n)) : Keeps P (storeOperand addr v n k s) :=
  keeps_andThen (memWrite_keeps hc hP) fun t ht => keeps_next (hk t ht)

theorem storeOperand_keeps (hc : CoreClosed P) {addr : Word} {v : Byte} {n : Nat} {s : State} (hP : P s) :
    Keeps P (storeOperand addr v n id s) := storeOperand_keeps' hc hP fun _ ht => hc.core_of ht rfl

theorem modifyHL_keeps (hc : CoreClosed P) {f : Byte → Byte × Flags} {s : State} {n : Nat} (hP : P s) :
    Keeps P (modifyHL f s n) :=
  keeps_withValue (fun _ _ h => memRead_keeps hc hP h) fun _ _ ht => storeOperand_keeps' hc ht fun _ hu => hc.core_of hu rfl

theorem loadReg_keeps (hc : CoreClosed P) {dst src : Reg8} {s : State} (hP : P s) : Keeps P (loadReg dst src s) :=
  keeps_next (hc.core_of hP rfl)

theorem loadImm_keeps (hc : CoreClosed P) {dst : Reg8} {n : Byte} {s : State} (hP : P s) : Keeps P (loadImm dst n s) :=
  keeps_next (hc.core_of hP rfl)

theorem loadFrom_keeps (hc : CoreClosed P) {r : Reg8} {addr : Word} {n : Nat} {s : State} (hP : P s) :
    Keeps P (loadFrom r addr n s) := withOperand_keeps hc hP fun _ _ ht => hc.core_of ht rfl

theorem storeReg_keeps (hc : CoreClosed P) {r : Reg8} {addr : Word} {n : Nat} {s : State} (hP : P s) :
    Keeps P (storeReg r addr n s) := storeOperand_keeps hc hP

theorem loadStep_keeps (hc : CoreClosed P) {d : Word} {s : State} (hP : P s) : Keeps P (loadStep d s) :=
  withOperand_keeps hc hP fun _ _ ht => hc.core_of ht rfl

theorem storeStep_keeps (hc : CoreClosed P) {d : Word} {s : State} (hP : P s) : Keeps P (storeStep d s) :=
  storeOperand_keeps' hc hP fun _ ht => hc.core_of ht rfl

theorem setPair_keeps (hc : CoreClosed P) {p : RegPair} {v : Word} {n : Nat} {s : State} (hP : P s) :
    P ((s.setPair p v).spend n) := by cases p <;> exact hc.core_of hP rfl

theorem loadPair_keeps (hc : CoreClosed P) {p : RegPair} {nn : Word} {s : State} (hP : P s) :
    Keeps P (loadPair p nn s) := keeps_next (setPair_keeps hc hP)

theorem storeSp_keeps (hc : CoreClosed P) {nn : Word} {s : State} (hP : P s) : Keeps P (storeSp nn s) :=
  keeps_andThen (memWrite_keeps hc hP) fun _ ht => storeOperand_keeps hc ht

theorem pushPair_keeps (hc : CoreClosed P) {p : StackPair} {s : State} (hP : P s) : Keeps P (pushPair p s) :=
  keeps_andThen (push16_keeps hc hP) fun _ ht => keeps_next (hc.core_of ht rfl)

theorem popPair_keeps (hc : CoreClosed P) {p : StackPair} {s : State} (hP : P s) : Keeps P (popPair p s) :=
  keeps_withValue (fun _ _ h => pop16_keeps hc hP h) fun _ _ ht =>
    keeps_next (by cases p <;> exact hc.core_of ht rfl)

theorem aluWithReg_keeps (hc : CoreClosed P) {op : AluOp} {r : Reg8} {s : State} (hP : P s) :
    Keeps P (aluWithReg op r s) := keeps_next (hc.core_of hP rfl)

theorem aluWithImm_keeps (hc : CoreClosed P) {op : AluOp} {n : Byte} {s : State} (hP : P s) :
    Keeps P (aluWithImm op n s) := keeps_next (hc.core_of hP rfl)

theorem aluWithHL_keeps (hc : CoreClosed P) {op : AluOp} {s : State} (hP : P s) : Keeps P (aluWithHL op s) :=
  withOperand_keeps hc hP fun _ _ ht => hc.core_of ht rfl

theorem stepReg_keeps (hc : CoreClosed P) {f : Flags → Byte → Byte × Flags} {r : Reg8} {s : State} (hP : P s) :
    Keeps P (stepReg f r s) := keeps_next (hc.core_of hP rfl)

theorem decimalAdjust_keeps (hc : CoreClosed P) {s : State} (hP : P s) : Keeps P (decimalAdjust s) :=
  keeps_next (hc.core_of hP rfl)

theorem stepPair_keeps (hc : CoreClosed P) {d : Word} {p : RegPair} {s : State} (hP : P s) : Keeps P (stepPair d p s) :=
  keeps_next (setPair_keeps hc hP)

theorem addToHL_keeps (hc : CoreClosed P) {p : RegPair} {s : State} (hP : P s) : Keeps P (addToHL p s) :=
  keeps_next (hc.core_of hP rfl)

theorem addToSp_keeps (hc : CoreClosed P) {e : Byte} {s : State} (hP : P s) : Keeps P (addToSp e s) :=
  keeps_next (hc.core_of hP rfl)

theorem loadHLFromSp_keeps (hc : CoreClosed P) {e : Byte} {s : State} (hP : P s) : Keeps P (loadHLFromSp e s) :=
  keeps_next (hc.core_of hP rfl)

theorem rotateAcc_keeps (hc : CoreClosed P) {op : RotOp} {s : State} (hP : P s) : Keeps P (rotateAcc op s) :=
  keeps_next (hc.core_of hP rfl)

theorem rotateReg_keeps (hc : CoreClosed P) {op : RotOp} {r : Reg8} {s : State} (hP : P s) :
    Keeps P (rotateReg op r s) := keeps_next (hc.core_of hP rfl)

theorem rotateHL_keeps (hc : CoreClosed P) {op : RotOp} {s : State} (hP : P s) : Keeps P (rotateHL op s) :=
  modifyHL_keeps hc hP

theorem testBitReg_keeps (hc : CoreClosed P) {b : Fin 8} {r : Reg8} {s : State} (hP : P s) :
    Keeps P (testBitReg b r s) := keeps_next (hc.core_of hP rfl)

theorem testBitHL_keeps (hc : CoreClosed P) {b : Fin 8} {s : State} (hP : P s) : Keeps P (testBitHL b s) :=
  withOperand_keeps hc hP fun _ _ ht => hc.core_of ht rfl

theorem resetBitReg_keeps (hc : CoreClosed P) {b : Fin 8} {r : Reg8} {s : State} (hP : P s) :
    Keeps P (resetBitReg b r s) := keeps_next (hc.core_of hP rfl)

theorem resetBitHL_keeps (hc : CoreClosed P) {b : Fin 8} {s : State} (hP : P s) : Keeps P (resetBitHL b s) :=
  modifyHL_keeps hc hP

theorem setBitReg_keeps (hc : CoreClosed P) {b : Fin 8} {r : Reg8} {s : State} (hP : P s) :
    Keeps P (setBitReg b r s) := keeps_next (hc.core_of hP rfl)

theorem setBitHL_keeps (hc : CoreClosed P) {b : Fin 8} {s : State} (hP : P s) : Keeps P (setBitHL b s) :=
  modifyHL_keeps hc hP

theorem jumpTo_keeps (hc : CoreClosed P) {v : Word} {n : Nat} {s : State} (hP : P s) : Keeps P (jumpTo v n s) :=
  keeps_next (hc.core_of hP rfl)

theorem jumpIf_keeps (hc : CoreClosed P) {cc : Cond} {v : Word} {s : State} (hP : P s) : Keeps P (jumpIf cc v s) := by
  unfold jumpIf; split
  · exact jumpTo_keeps hc hP
  · exact keeps_next (hc.core_of hP rfl)

theorem relativeIf_keeps (hc : CoreClosed P) {cc : Cond} {e : Byte} {s : State} (hP : P s) :
    Keeps P (relativeIf cc e s) := by
  unfold relativeIf; split
  · exact jumpTo_keeps hc hP
  · exact keeps_next (hc.core_of hP rfl)

theorem callTo_keeps (hc : CoreClosed P) {v : Word} {n : Nat} {s : State} (hP : P s) : Keeps P (callTo v n s) :=
  keeps_andThen (push16_keeps hc hP) fun _ ht => jumpTo_keeps hc ht

theorem callIf_keeps (hc : CoreClosed P) {cc : Cond} {v : Word} {s : State} (hP : P s) : Keeps P (callIf cc v s) := by
  unfold callIf; split
  · exact callTo_keeps hc hP
  · exact keeps_next (hc.core_of hP rfl)

theorem returnTo_keeps (hc : CoreClosed P) {n : Nat} {s : State} (hP : P s) : Keeps P (returnTo n s) :=
  keeps_withValue (fun _ _ h => pop16_keeps hc hP h) fun _ _ ht => jumpTo_keeps hc ht

theorem returnIf_keeps (hc : CoreClosed P) {cc : Cond} {s : State} (hP : P s) : Keeps P (returnIf cc s) := by
  unfold returnIf; split
  · exact returnTo_keeps hc hP
  · exact keeps_next (hc.core_of hP rfl)

theorem returnFromInterrupt_keeps (hc : CoreClosed P) {s : State} (hP : P s) : Keeps P (returnFromInterrupt s) :=
  keeps_withValue (fun _ _ h => pop16_keeps hc hP h) fun _ _ ht => keeps_next (hc.core_of ht rfl)

theorem reti_keeps (hc : CoreClosed P) {s : State} (hP : P s) : Keeps P (execReti s) :=
  keeps_andThen (returnFromInterrupt_keeps hc hP) fun _ ht => keeps_next (hc.core_of ht rfl)

theorem halt_keeps (hc : CoreClosed P) {s : State} (hP : P s) : Keeps P (execHalt s) := by
  apply keeps_next
  unfold haltCore
  split
  · rename_i h
    simp only [Bool.and_eq_true] at h
    exact hc.core_of (hc.latch s h.1.1 hP) rfl
  · exact hc.core_of hP rfl

theorem switchSpeed_keeps (hc : CoreClosed P) {s : State} (hP : P s) : Keeps P (switchSpeed s) := by
  unfold switchSpeed
  split
  · rename_i h
    simp only [Bool.and_eq_true] at h
    exact keeps_next (hc.core_of (hc.speed s h.1 hP) rfl)
  · exact keeps_fault _

theorem prefixed_keeps (hc : CoreClosed P) {op2 : Byte} {s : State} (hP : P s) : Keeps P (prefixed op2 s) := by
  unfold prefixed
  split
  · exact rotateReg_keeps hc hP
  · exact rotateHL_keeps hc hP
  · exact testBitReg_keeps hc hP
  · exact testBitHL_keeps hc hP
  · exact resetBitReg_keeps hc hP
  · exact resetBitHL_keeps hc hP
  · exact setBitReg_keeps hc hP
  · exact setBitHL_keeps hc hP

/-! ### Every instruction -/

/-- Every instruction keeps a property that the elementary changes keep. -/
theorem exec_keeps (hc : CoreClosed P) {s : State} (i : Instr) (hP : P s) : Keeps P (exec i s) :=
  match i with
  | .ldBCD16 _ => loadPair_keeps hc hP
  | .ldBD8 _ => loadImm_keeps hc hP
  | .ldAtA16SP _ => storeSp_keeps hc hP
  | .ldCD8 _ => loadImm_keeps hc hP
  | .stop _ => switchSpeed_keeps hc hP
  | .ldDED16 _ => loadPair_keeps hc hP
  | .ldDD8 _ => loadImm_keeps hc hP
  | .jrE8 _ => jumpTo_keeps hc hP
  | .ldED8 _ => loadImm_keeps hc hP
  | .jrNZE8 _ => relativeIf_keeps hc hP
  | .ldHLD16 _ => loadPair_keeps hc hP
  | .ldHD8 _ => loadImm_keeps hc hP
  | .jrZE8 _ => relativeIf_keeps hc hP
  | .ldLD8 _ => loadImm_keeps hc hP
  | .jrNCE8 _ => relativeIf_keeps hc hP
  | .ldSPD16 _ => loadPair_keeps hc hP
  | .ldAtHLD8 _ => storeOperand_keeps hc hP
  | .jrCE8 _ => relativeIf_keeps hc hP
  | .ldAD8 _ => loadImm_keeps hc hP
  | .jpNZA16 _ => jumpIf_keeps hc hP
  | .jpA16 _ => jumpTo_keeps hc hP
  | .callNZA16 _ => callIf_keeps hc hP
  | .addAD8 _ => aluWithImm_keeps hc hP
  | .jpZA16 _ => jumpIf_keeps hc hP
  | .prefixCB _ => prefixed_keeps hc hP
  | .callZA16 _ => callIf_keeps hc hP
  | .callA16 _ => callTo_keeps hc hP
  | .adcAD8 _ => aluWithImm_keeps hc hP
  | .jpNCA16 _ => jumpIf_keeps hc hP
  | .callNCA16 _ => callIf_keeps hc hP
  | .subD8 _ => aluWithImm_keeps hc hP
  | .jpCA16 _ => jumpIf_keeps hc hP
  | .callCA16 _ => callIf_keeps hc hP
  | .sbcAD8 _ => aluWithImm_keeps hc hP
  | .ldhAtA8A _ => storeReg_keeps hc hP
  | .andD8 _ => aluWithImm_keeps hc hP
  | .addSPE8 _ => addToSp_keeps hc hP
  | .ldAtA16A _ => storeReg_keeps hc hP
  | .xorD8 _ => aluWithImm_keeps hc hP
  | .ldhAAtA8 _ => loadFrom_keeps hc hP
  | .orD8 _ => aluWithImm_keeps hc hP
  | .ldHLSPE8 _ => loadHLFromSp_keeps hc hP
  | .ldAAtA16 _ => loadFrom_keeps hc hP
  | .cpD8 _ => aluWithImm_keeps hc hP
  | .nop => keeps_next (hc.core_of hP rfl)
  | .ldAtBCA => storeReg_keeps hc hP
  | .incBC => stepPair_keeps hc hP
  | .incB => stepReg_keeps hc hP
  | .decB => stepReg_keeps hc hP
  | .rlca => rotateAcc_keeps hc hP
  | .addHLBC => addToHL_keeps hc hP
  | .ldAAtBC => loadFrom_keeps hc hP
  | .decBC => stepPair_keeps hc hP
  | .incC => stepReg_keeps hc hP
  | .decC => stepReg_keeps hc hP
  | .rrca => rotateAcc_keeps hc hP
  | .ldAtDEA => storeReg_keeps hc hP
  | .incDE => stepPair_keeps hc hP
  | .incD => stepReg_keeps hc hP
  | .decD => stepReg_keeps hc hP
  | .rla => rotateAcc_keeps hc hP
  | .addHLDE => addToHL_keeps hc hP
  | .ldAAtDE => loadFrom_keeps hc hP
  | .decDE => stepPair_keeps hc hP
  | .incE => stepReg_keeps hc hP
  | .decE => stepReg_keeps hc hP
  | .rra => rotateAcc_keeps hc hP
  | .ldAtHLIncA => storeStep_keeps hc hP
  | .incHL => stepPair_keeps hc hP
  | .incH => stepReg_keeps hc hP
  | .decH => stepReg_keeps hc hP
  | .daa => decimalAdjust_keeps hc hP
  | .addHLHL => addToHL_keeps hc hP
  | .ldAAtHLInc => loadStep_keeps hc hP
  | .decHL => stepPair_keeps hc hP
  | .incL => stepReg_keeps hc hP
  | .decL => stepReg_keeps hc hP
  | .cpl => keeps_next (hc.core_of hP rfl)
  | .ldAtHLDecA => storeStep_keeps hc hP
  | .incSP => stepPair_keeps hc hP
  | .incAtHL => modifyHL_keeps hc hP
  | .decAtHL => modifyHL_keeps hc hP
  | .scf => keeps_next (hc.core_of hP rfl)
  | .addHLSP => addToHL_keeps hc hP
  | .ldAAtHLDec => loadStep_keeps hc hP
  | .decSP => stepPair_keeps hc hP
  | .incA => stepReg_keeps hc hP
  | .decA => stepReg_keeps hc hP
  | .ccf => keeps_next (hc.core_of hP rfl)
  | .ldBB => loadReg_keeps hc hP
  | .ldBC => loadReg_keeps hc hP
  | .ldBD => loadReg_keeps hc hP
  | .ldBE => loadReg_keeps hc hP
  | .ldBH => loadReg_keeps hc hP
  | .ldBL => loadReg_keeps hc hP
  | .ldBAtHL => loadFrom_keeps hc hP
  | .ldBA => loadReg_keeps hc hP
  | .ldCB => loadReg_keeps hc hP
  | .ldCC => loadReg_keeps hc hP
  | .ldCD => loadReg_keeps hc hP
  | .ldCE => loadReg_keeps hc hP
  | .ldCH => loadReg_keeps hc hP
  | .ldCL => loadReg_keeps hc hP
  | .ldCAtHL => loadFrom_keeps hc hP
  | .ldCA => loadReg_keeps hc hP
  | .ldDB => loadReg_keeps hc hP
  | .ldDC => loadReg_keeps hc hP
  | .ldDD => loadReg_keeps hc hP
  | .ldDE => loadReg_keeps hc hP
  | .ldDH => loadReg_keeps hc hP
  | .ldDL => loadReg_keeps hc hP
  | .ldDAtHL => loadFrom_keeps hc hP
  | .ldDA => loadReg_keeps hc hP
  | .ldEB => loadReg_keeps hc hP
  | .ldEC => loadReg_keeps hc hP
  | .ldED => loadReg_keeps hc hP
  | .ldEE => loadReg_keeps hc hP
  | .ldEH => loadReg_keeps hc hP
  | .ldEL => loadReg_keeps hc hP
  | .ldEAtHL => loadFrom_keeps hc hP
  | .ldEA => loadReg_keeps hc hP
  | .ldHB => loadReg_keeps hc hP
  | .ldHC => loadReg_keeps hc hP
  | .ldHD => loadReg_keeps hc hP
  | .ldHE => loadReg_keeps hc hP
  | .ldHH => loadReg_keeps hc hP
  | .ldHL => loadReg_keeps hc hP
  | .ldHAtHL => loadFrom_keeps hc hP
  | .ldHA => loadReg_keeps hc hP
  | .ldLB => loadReg_keeps hc hP
  | .ldLC => loadReg_keeps hc hP
  | .ldLD => loadReg_keeps hc hP
  | .ldLE => loadReg_keeps hc hP
  | .ldLH => loadReg_keeps hc hP
  | .ldLL => loadReg_keeps hc hP
  | .ldLAtHL => loadFrom_keeps hc hP
  | .ldLA => loadReg_keeps hc hP
  | .ldAtHLB => storeReg_keeps hc hP
  | .ldAtHLC => storeReg_keeps hc hP
  | .ldAtHLD => storeReg_keeps hc hP
  | .ldAtHLE => storeReg_keeps hc hP
  | .ldAtHLH => storeReg_keeps hc hP
  | .ldAtHLL => storeReg_keeps hc hP
  | .halt => halt_keeps hc hP
  | .ldAtHLA => storeReg_keeps hc hP
  | .ldAB => loadReg_keeps hc hP
  | .ldAC => loadReg_keeps hc hP
  | .ldAD => loadReg_keeps hc hP
  | .ldAE => loadReg_keeps hc hP
  | .ldAH => loadReg_keeps hc hP
  | .ldAL => loadReg_keeps hc hP
  | .ldAAtHL => loadFrom_keeps hc hP
  | .ldAA => loadReg_keeps hc hP
  | .addAB => aluWithReg_keeps hc hP
  | .addAC => aluWithReg_keeps hc hP
  | .addAD => aluWithReg_keeps hc hP
  | .addAE => aluWithReg_keeps hc hP
  | .addAH => aluWithReg_keeps hc hP
  | .addAL => aluWithReg_keeps hc hP
  | .addAAtHL => aluWithHL_keeps hc hP
  | .addAA => aluWithReg_keeps hc hP
  | .adcAB => aluWithReg_keeps hc hP
  | .adcAC => aluWithReg_keeps hc hP
  | .adcAD => aluWithReg_keeps hc hP
  | .adcAE => aluWithReg_keeps hc hP
  | .adcAH => aluWithReg_keeps hc hP
  | .adcAL => aluWithReg_keeps hc hP
  | .adcAAtHL => aluWithHL_keeps hc hP
  | .adcAA => aluWithReg_keeps hc hP
  | .subB => aluWithReg_keeps hc hP
  | .subC => aluWithReg_keeps hc hP
  | .subD => aluWithReg_keeps hc hP
  | .subE => aluWithReg_keeps hc hP
  | .subH => aluWithReg_keeps hc hP
  | .subL => aluWithReg_keeps hc hP
  | .subAtHL => aluWithHL_keeps hc hP
  | .subA => aluWithReg_keeps hc hP
  | .sbcAB => aluWithReg_keeps hc hP
  | .sbcAC => aluWithReg_keeps hc hP
  | .sbcAD => aluWithReg_keeps hc hP
  | .sbcAE => aluWithReg_keeps hc hP
  | .sbcAH => aluWithReg_keeps hc hP
  | .sbcAL => aluWithReg_keeps hc hP
  | .sbcAAtHL => aluWithHL_keeps hc hP
  | .sbcAA => aluWithReg_keeps hc hP
  | .andB => aluWithReg_keeps hc hP
  | .andC => aluWithReg_keeps hc hP
  | .andD => aluWithReg_keeps hc hP
  | .andE => aluWithReg_keeps hc hP
  | .andH => aluWithReg_keeps hc hP
  | .andL => aluWithReg_keeps hc hP
  | .andAtHL => aluWithHL_keeps hc hP
  | .andA => aluWithReg_keeps hc hP
  | .xorB => aluWithReg_keeps hc hP
  | .xorC => aluWithReg_keeps hc hP
  | .xorD => aluWithReg_keeps hc hP
  | .xorE => aluWithReg_keeps hc hP
  | .xorH => aluWithReg_keeps hc hP
  | .xorL => aluWithReg_keeps hc hP
  | .xorAtHL => aluWithHL_keeps hc hP
  | .xorA => aluWithReg_keeps hc hP
  | .orB => aluWithReg_keeps hc hP
  | .orC => aluWithReg_keeps hc hP
  | .orD => aluWithReg_keeps hc hP
  | .orE => aluWithReg_keeps hc hP
  | .orH => aluWithReg_keeps hc hP
  | .orL => aluWithReg_keeps hc hP
  | .orAtHL => aluWithHL_keeps hc hP
  | .orA => aluWithReg_keeps hc hP
  | .cpB => aluWithReg_keeps hc hP
  | .cpC => aluWithReg_keeps hc hP
  | .cpD => aluWithReg_keeps hc hP
  | .cpE => aluWithReg_keeps hc hP
  | .cpH => aluWithReg_keeps hc hP
  | .cpL => aluWithReg_keeps hc hP
  | .cpAtHL => aluWithHL_keeps hc hP
  | .cpA => aluWithReg_keeps hc hP
  | .retNZ => returnIf_keeps hc hP
  | .popBC => popPair_keeps hc hP
  | .pushBC => pushPair_keeps hc hP
  | .rst00H => callTo_keeps hc hP
  | .retZ => returnIf_keeps hc hP
  | .ret => returnTo_keeps hc hP
  | .rst08H => callTo_keeps hc hP
  | .retNC => returnIf_keeps hc hP
  | .popDE => popPair_keeps hc hP
  | .illegalD3 => keeps_fault _
  | .pushDE => pushPair_keeps hc hP
  | .rst10H => callTo_keeps hc hP
  | .retC => returnIf_keeps hc hP
  | .reti => reti_keeps hc hP
  | .illegalDB => keeps_fault _
  | .illegalDD => keeps_fault _
  | .rst18H => callTo_keeps hc hP
  | .popHL => popPair_keeps hc hP
  | .ldAtCA => storeReg_keeps hc hP
  | .illegalE3 => keeps_fault _
  | .illegalE4 => keeps_fault _
  | .pushHL => pushPair_keeps hc hP
  | .rst20H => callTo_keeps hc hP
  | .jpHL => jumpTo_keeps hc hP
  | .illegalEB => keeps_fault _
  | .illegalEC => keeps_fault _
  | .illegalED => keeps_fault _
  | .rst28H => callTo_keeps hc hP
  | .popAF => popPair_keeps hc hP
  | .ldAAtC => loadFrom_keeps hc hP
  | .di => keeps_next (hc.core_of hP rfl)
  | .illegalF4 => keeps_fault _
  | .pushAF => pushPair_keeps hc hP
  | .rst30H => callTo_keeps hc hP
  | .ldSPHL => keeps_next (hc.core_of hP rfl)
  | .ei => keeps_next (hc.core_of hP rfl)
  | .illegalFC => keeps_fault _
  | .illegalFD => keeps_fault _
  | .rst38H => callTo_keeps hc hP
  | .rlcB => rotateReg_keeps hc hP
  | .rlcC => rotateReg_keeps hc hP
  | .rlcD => rotateReg_keeps hc hP
  | .rlcE => rotateReg_keeps hc hP
  | .rlcH => rotateReg_keeps hc hP
  | .rlcL => rotateReg_keeps hc hP
  | .rlcAtHL => rotateHL_keeps hc hP
  | .rlcA => rotateReg_keeps hc hP
  | .rrcB => rotateReg_keeps hc hP
  | .rrcC => rotateReg_keeps hc hP
  | .rrcD => rotateReg_keeps hc hP
  | .rrcE => rotateReg_keeps hc hP
  | .rrcH => rotateReg_keeps hc hP
  | .rrcL => rotateReg_keeps hc hP
  | .rrcAtHL => rotateHL_keeps hc hP
  | .rrcA => rotateReg_keeps hc hP
  | .rlB => rotateReg_keeps hc hP
  | .rlC => rotateReg_keeps hc hP
  | .rlD => rotateReg_keeps hc hP
  | .rlE => rotateReg_keeps hc hP
  | .rlH => rotateReg_keeps hc hP
  | .rlL => rotateReg_keeps hc hP
  | .rlAtHL => rotateHL_keeps hc hP
  | .rlA => rotateReg_keeps hc hP
  | .rrB => rotateReg_keeps hc hP
  | .rrC => rotateReg_keeps hc hP
  | .rrD => rotateReg_keeps hc hP
  | .rrE => rotateReg_keeps hc hP
  | .rrH => rotateReg_keeps hc hP
  | .rrL => rotateReg_keeps hc hP
  | .rrAtHL => rotateHL_keeps hc hP
  | .rrA => rotateReg_keeps hc hP
  | .slaB => rotateReg_keeps hc hP
  | .slaC => rotateReg_keeps hc hP
  | .slaD => rotateReg_keeps hc hP
  | .slaE => rotateReg_keeps hc hP
  | .slaH => rotateReg_keeps hc hP
  | .slaL => rotateReg_keeps hc hP
  | .slaAtHL => rotateHL_keeps hc hP
  | .slaA => rotateReg_keeps hc hP
  | .sraB => rotateReg_keeps hc hP
  | .sraC => rotateReg_keeps hc hP
  | .sraD => rotateReg_keeps hc hP
  | .sraE => rotateReg_keeps hc hP
  | .sraH => rotateReg_keeps hc hP
  | .sraL => rotateReg_keeps hc hP
  | .sraAtHL => rotateHL_keeps hc hP
  | .sraA => rotateReg_keeps hc hP
  | .swapB => rotateReg_keeps hc hP
  | .swapC => rotateReg_keeps hc hP
  | .swapD => rotateReg_keeps hc hP
  | .swapE => rotateReg_keeps hc hP
  | .swapH => rotateReg_keeps hc hP
  | .swapL => rotateReg_keeps hc hP
  | .swapAtHL => rotateHL_keeps hc hP
  | .swapA => rotateReg_keeps hc hP
  | .srlB => rotateReg_keeps hc hP
  | .srlC => rotateReg_keeps hc hP
  | .srlD => rotateReg_keeps hc hP
  | .srlE => rotateReg_keeps hc hP
  | .srlH => rotateReg_keeps hc hP
  | .srlL => rotateReg_keeps hc hP
  | .srlAtHL => rotateHL_keeps hc hP
  | .srlA => rotateReg_keeps hc hP
  | .bit0B => testBitReg_keeps hc hP
  | .bit0C => testBitReg_keeps hc hP
  | .bit0D => testBitReg_keeps hc hP
  | .bit0E => testBitReg_keeps hc hP
  | .bit0H => testBitReg_keeps hc hP
  | .bit0L => testBitReg_keeps hc hP
  | .bit0AtHL => testBitHL_keeps hc hP
  | .bit0A => testBitReg_keeps hc hP
  | .bit1B => testBitReg_keeps hc hP
  | .bit1C => testBitReg_keeps hc hP
  | .bit1D => testBitReg_keeps hc hP
  | .bit1E => testBitReg_keeps hc hP
  | .bit1H => testBitReg_keeps hc hP
  | .bit1L => testBitReg_keeps hc hP
  | .bit1AtHL => testBitHL_keeps hc hP
  | .bit1A => testBitReg_keeps hc hP
  | .bit2B => testBitReg_keeps hc hP
  | .bit2C => testBitReg_keeps hc hP
  | .bit2D => testBitReg_keeps hc hP
  | .bit2E => testBitReg_keeps hc hP
  | .bit2H => testBitReg_keeps hc hP
  | .bit2L => testBitReg_keeps hc hP
  | .bit2AtHL => testBitHL_keeps hc hP
  | .bit2A => testBitReg_keeps hc hP
  | .bit3B => testBitReg_keeps hc hP
  | .bit3C => testBitReg_keeps hc hP
  | .bit3D => testBitReg_keeps hc hP
  | .bit3E => testBitReg_keeps hc hP
  | .bit3H => testBitReg_keeps hc hP
  | .bit3L => testBitReg_keeps hc hP
  | .bit3AtHL => testBitHL_keeps hc hP
  | .bit3A => testBitReg_keeps hc hP
  | .bit4B => testBitReg_keeps hc hP
  | .bit4C => testBitReg_keeps hc hP
  | .bit4D => testBitReg_keeps hc hP
  | .bit4E => testBitReg_keeps hc hP
  | .bit4H => testBitReg_keeps hc hP
  | .bit4L => testBitReg_keeps hc hP
  | .bit4AtHL => testBitHL_keeps hc hP
  | .bit4A => testBitReg_keeps hc hP
  | .bit5B => testBitReg_keeps hc hP
  | .bit5C => testBitReg_keeps hc hP
  | .bit5D => testBitReg_keeps hc hP
  | .bit5E => testBitReg_keeps hc hP
  | .bit5H => testBitReg_keeps hc hP
  | .bit5L => testBitReg_keeps hc hP
  | .bit5AtHL => testBitHL_keeps hc hP
  | .bit5A => testBitReg_keeps hc hP
  | .bit6B => testBitReg_keeps hc hP
  | .bit6C => testBitReg_keeps hc hP
  | .bit6D => testBitReg_keeps hc hP
  | .bit6E => testBitReg_keeps hc hP
  | .bit6H => testBitReg_keeps hc hP
  | .bit6L => testBitReg_keeps hc hP
  | .bit6AtHL => testBitHL_keeps hc hP
  | .bit6A => testBitReg_keeps hc hP
  | .bit7B => testBitReg_keeps hc hP
  | .bit7C => testBitReg_keeps hc hP
  | .bit7D => testBitReg_keeps hc hP
  | .bit7E => testBitReg_keeps hc hP
  | .bit7H => testBitReg_keeps hc hP
  | .bit7L => testBitReg_keeps hc hP
  | .bit7AtHL => testBitHL_keeps hc hP
  | .bit7A => testBitReg_keeps hc hP
  | .res0B => resetBitReg_keeps hc hP
  | .res0C => resetBitReg_keeps hc hP
  | .res0D => resetBitReg_keeps hc hP
  | .res0E => resetBitReg_keeps hc hP
  | .res0H => resetBitReg_keeps hc hP
  | .res0L => resetBitReg_keeps hc hP
  | .res0AtHL => resetBitHL_keeps hc hP
  | .res0A => resetBitReg_keeps hc hP
  | .res1B => resetBitReg_keeps hc hP
  | .res1C => resetBitReg_keeps hc hP
  | .res1D => resetBitReg_keeps hc hP
  | .res1E => resetBitReg_keeps hc hP
  | .res1H => resetBitReg_keeps hc hP
  | .res1L => resetBitReg_keeps hc hP
  | .res1AtHL => resetBitHL_keeps hc hP
  | .res1A => resetBitReg_keeps hc hP
  | .res2B => resetBitReg_keeps hc hP
  | .res2C => resetBitReg_keeps hc hP
  | .res2D => resetBitReg_keeps hc hP
  | .res2E => resetBitReg_keeps hc hP
  | .res2H => resetBitReg_keeps hc hP
  | .res2L => resetBitReg_keeps hc hP
  | .res2AtHL => resetBitHL_keeps hc hP
  | .res2A => resetBitReg_keeps hc hP
  | .res3B => resetBitReg_keeps hc hP
  | .res3C => resetBitReg_keeps hc hP
  | .res3D => resetBitReg_keeps hc hP
  | .res3E => resetBitReg_keeps hc hP
  | .res3H => resetBitReg_keeps hc hP
  | .res3L => resetBitReg_keeps hc hP
  | .res3AtHL => resetBitHL_keeps hc hP
  | .res3A => resetBitReg_keeps hc hP
  | .res4B => resetBitReg_keeps hc hP
  | .res4C => resetBitReg_keeps hc hP
  | .res4D => resetBitReg_keeps hc hP
  | .res4E => resetBitReg_keeps hc hP
  | .res4H => resetBitReg_keeps hc hP
  | .res4L => resetBitReg_keeps hc hP
  | .res4AtHL => resetBitHL_keeps hc hP
  | .res4A => resetBitReg_keeps hc hP
  | .res5B => resetBitReg_keeps hc hP
  | .res5C => resetBitReg_keeps hc hP
  | .res5D => resetBitReg_keeps hc hP
  | .res5E => resetBitReg_keeps hc hP
  | .res5H => resetBitReg_keeps hc hP
  | .res5L => resetBitReg_keeps hc hP
  | .res5AtHL => resetBitHL_keeps hc hP
  | .res5A => resetBitReg_keeps hc hP
  | .res6B => resetBitReg_keeps hc hP
  | .res6C => resetBitReg_keeps hc hP
  | .res6D => resetBitReg_keeps hc hP
  | .res6E => resetBitReg_keeps hc hP
  | .res6H => resetBitReg_keeps hc hP
  | .res6L => resetBitReg_keeps hc hP
  | .res6AtHL => resetBitHL_keeps hc hP
  | .res6A => resetBitReg_keeps hc hP
  | .res7B => resetBitReg_keeps hc hP
  | .res7C => resetBitReg_keeps hc hP
  | .res7D => resetBitReg_keeps hc hP
  | .res7E => resetBitReg_keeps hc hP
  | .res7H => resetBitReg_keeps hc hP
  | .res7L => resetBitReg_keeps hc hP
  | .res7AtHL => resetBitHL_keeps hc hP
  | .res7A => resetBitReg_keeps hc hP
  | .set0B => setBitReg_keeps hc hP
  | .set0C => setBitReg_keeps hc hP
  | .set0D => setBitReg_keeps hc hP
  | .set0E => setBitReg_keeps hc hP
  | .set0H => setBitReg_keeps hc hP
  | .set0L => setBitReg_keeps hc hP
  | .set0AtHL => setBitHL_keeps hc hP
  | .set0A => setBitReg_keeps hc hP
  | .set1B => setBitReg_keeps hc hP
  | .set1C => setBitReg_keeps hc hP
  | .set1D => setBitReg_keeps hc hP
  | .set1E => setBitReg_keeps hc hP
  | .set1H => setBitReg_keeps hc hP
  | .set1L => setBitReg_keeps hc hP
  | .set1AtHL => setBitHL_keeps hc hP
  | .set1A => setBitReg_keeps hc hP
  | .set2B => setBitReg_keeps hc hP
  | .set2C => setBitReg_keeps hc hP
  | .set2D => setBitReg_keeps hc hP
  | .set2E => setBitReg_keeps hc hP
  | .set2H => setBitReg_keeps hc hP
  | .set2L => setBitReg_keeps hc hP
  | .set2AtHL => setBitHL_keeps hc hP
  | .set2A => setBitReg_keeps hc hP
  | .set3B => setBitReg_keeps hc hP
  | .set3C => setBitReg_keeps hc hP
  | .set3D => setBitReg_keeps hc hP
  | .set3E => setBitReg_keeps hc hP
  | .set3H => setBitReg_keeps hc hP
  | .set3L => setBitReg_keeps hc hP
  | .set3AtHL => setBitHL_keeps hc hP
  | .set3A => setBitReg_keeps hc hP
  | .set4B => setBitReg_keeps hc hP
  | .set4C => setBitReg_keeps hc hP
  | .set4D => setBitReg_keeps hc hP
  | .set4E => setBitReg_keeps hc hP
  | .set4H => setBitReg_keeps hc hP
  | .set4L => setBitReg_keeps hc hP
  | .set4AtHL => setBitHL_keeps hc hP
  | .set4A => setBitReg_keeps hc hP
  | .set5B => setBitReg_keeps hc hP
  | .set5C => setBitReg_keeps hc hP
  | .set5D => setBitReg_keeps hc hP
  | .set5E => setBitReg_keeps hc hP
  | .set5H => setBitReg_keeps hc hP
  | .set5L => setBitReg_keeps hc hP
  | .set5AtHL => setBitHL_keeps hc hP
  | .set5A => setBitReg_keeps hc hP
  | .set6B => setBitReg_keeps hc hP
  | .set6C => setBitReg_keeps hc hP
  | .set6D => setBitReg_keeps hc hP
  | .set6E => setBitReg_keeps hc hP
  | .set6H => setBitReg_keeps hc hP
  | .set6L => setBitReg_keeps hc hP
  | .set6AtHL => setBitHL_keeps hc hP
  | .set6A => setBitReg_keeps hc hP
  | .set7B => setBitReg_keeps hc hP
  | .set7C => setBitReg_keeps hc hP
  | .set7D => setBitReg_keeps hc hP
  | .set7E => setBitReg_keeps hc hP
  | .set7H => setBitReg_keeps hc hP
  | .set7L => setBitReg_keeps hc hP
  | .set7AtHL => setBitHL_keeps hc hP
  | .set7A => setBitReg_keeps hc hP

/-! ### Phases 0 to 2 -/

theorem advancePc_keeps (hc : CoreClosed P) {s : State} (hP : P s) : P s.advancePc := by
  unfold State.advancePc; split
  · exact hc.unlatch s hP
  · exact hc.core_of hP rfl

theorem fetch8_keeps (hc : CoreClosed P) {s t : State} {v : Byte} (hP : P s) (h : fetch8 s = .ok v t) : P t := by
  unfold fetch8 at h
  split at h
  · rename_i hr
    cases h
    exact advancePc_keeps hc (memRead_keeps hc hP hr)
  · cases h

theorem fetchOperands_keeps (hc : CoreClosed P) {n : Nat} {s t : State} {v : Byte × Byte} (hP : P s)
    (h : fetchOperands n s = .ok v t) : P t := by
  unfold fetchOperands at h
  split at h
  · cases h; exact hP
  · split at h
    · cases h
    · rename_i h1
      split at h
      · cases h; exact fetch8_keeps hc hP h1
      · split at h
        · cases h
        · rename_i h2
          cases h
          exact fetch8_keeps hc (fetch8_keeps hc hP h1) h2

theorem fetchInstr_keeps (hc : CoreClosed P) {s t : State} {i : Instr} (hP : P s) (h : fetchInstr s = .ok i t) : P t := by
  unfold fetchInstr at h
  split at h
  · cases h
  · rename_i h1
    split at h
    · cases h
    · rename_i h2
      cases h
      exact fetchOperands_keeps hc (fetch8_keeps hc (hc.core_of hP rfl) h1) h2

theorem executePhase_keeps (hc : CoreClosed P) {s : State} (hP : P s) : Keeps P (executePhase s) := by
  unfold executePhase; split
  · exact keeps_next (hc.core_of hP rfl)
  · exact keeps_withValue (fun _ _ h => fetchInstr_keeps hc hP h) fun i _ ht => exec_keeps hc i ht

theorem acknowledge_keeps (hc : CoreClosed P) {s : State} {n : IntSource} (hP : P s) : P (s.acknowledge n) :=
  hc.core_of (hc.request s (s.iflag &&& ~~~n.mask) hP) rfl

theorem takeInterrupt_keeps (hc : CoreClosed P) {s : State} {n : IntSource} (hP : P s) : Keeps P (takeInterrupt n s) :=
  keeps_andThen (push16_keeps hc (acknowledge_keeps hc hP)) fun _ ht => keeps_next (hc.core_of ht rfl)

theorem checkInterrupts_keeps (hc : CoreClosed P) {s : State} (hP : P s) : Keeps P (checkInterrupts s) := by
  unfold checkInterrupts
  split
  · split
    · exact takeInterrupt_keeps hc hP
    · exact keeps_next hP
  · split
    · exact keeps_next (hc.core_of hP rfl)
    · exact keeps_next hP

theorem promote_keeps (hc : CoreClosed P) {s : State} (hP : P s) : P (promote s) := by
  unfold promote; split
  · exact hc.core_of hP rfl
  · exact hP

/-! ### The devices -/

/-- Everything phases 3 and 4 and the host's sample can do to a state. -/
structure DeviceClosed (P : State → Prop) : Prop where
  pad : ∀ s p, P s → P { s with pad := p }
  timer : ∀ s t, P s → P { s with timer := t }
  ppu : ∀ s, P s → P (ppuStep s)
  oam : ∀ s x v, s.dma.oam = some x → P s →
    P { s.setCell (Key.oam x.index) v with dma := { s.dma with oam := x.advance } }
  vramEnd : ∀ s, P s → P { s with dma := { s.dma with vram := none } }
  vramCopy : ∀ s x v, s.dma.vram = some x → x.exhausted = false → (x.kind = .hblank → x.lineCount < 16) → P s →
    P { s.setCell (Key.vram s.vramBank (x.dst.toNat - 0x8000)) v with dma := { s.dma with vram := x.advance } }
  vramLine : ∀ s x, s.dma.vram = some x → P s → P { s with dma := { s.dma with vram := some { x with lineCount := 0 } } }
  account : ∀ s u c, P s → P { s with apu := u, sched := c }

theorem raiseIf_keeps (hc : CoreClosed P) {s : State} {c : Bool} {n : IntSource} (hP : P s) : P (s.raiseIf c n) := by
  cases c
  · exact hP
  · exact hc.request s _ hP

theorem timerStep_keeps (hc : CoreClosed P) (hd : DeviceClosed P) {s : State} (hP : P s) : P (timerStep s) :=
  hd.timer _ _ (raiseIf_keeps hc hP)

theorem padStep_keeps (hc : CoreClosed P) (hd : DeviceClosed P) {s : State} (hP : P s) : P (padStep s) :=
  hd.pad _ _ (raiseIf_keeps hc hP)

theorem oamDmaStep_keeps (hc : CoreClosed P) (hd : DeviceClosed P) {s : State} (hP : P s) : Keeps P (oamDmaStep s) := by
  unfold oamDmaStep
  split
  · exact keeps_next hP
  · rename_i x hx
    intro t ht
    obtain ⟨v, u, h1, h2⟩ := withValue_eq_next ht
    obtain ⟨_, _, rfl⟩ := busRead_eq_ok h1
    cases h2
    exact hd.oam s.countRead x v hx (hc.countRead hP)

theorem vramCopy_keeps (hc : CoreClosed P) (hd : DeviceClosed P) {s : State} {x : VramXfer} (hx : s.dma.vram = some x)
    (hq : x.kind = .hblank → x.lineCount < 16) (hP : P s) : Keeps P (vramCopy x s) := by
  unfold Sys2Proof.Machine.vramCopy
  split
  · exact keeps_next (hd.vramEnd s hP)
  · rename_i he
    intro t ht
    obtain ⟨v, u, h1, h2⟩ := withValue_eq_next ht
    obtain ⟨_, _, rfl⟩ := busRead_eq_ok h1
    cases h2
    exact hd.vramCopy s.countRead x v hx (by simpa using he) hq (hc.countRead hP)

/-- A burst keeps the property and the transfer's kind. -/
theorem vramBurst_keeps (hc : CoreClosed P) (hd : DeviceClosed P) {n : Nat} {s : State}
    (hk : ∀ x, s.dma.vram = some x → x.kind = .general) (hP : P s) : Keeps P (vramBurst n s) := by
  induction n generalizing s with
  | zero => exact keeps_next hP
  | succ k ih =>
    unfold vramBurst
    split
    · exact keeps_next hP
    · rename_i x hx
      have hg := hk x hx
      intro t ht
      obtain ⟨u, h1, h2⟩ := andThen_eq_next ht
      refine ih ?_ (vramCopy_keeps hc hd hx (fun h => by rw [hg] at h; cases h) hP u h1) t h2
      intro y hy
      unfold Sys2Proof.Machine.vramCopy at h1
      split at h1
      · cases h1; cases hy
      · obtain ⟨v, w, h3, h4⟩ := withValue_eq_next h1
        cases h4
        simp only at hy
        unfold VramXfer.advance at hy
        split at hy
        · cases hy
        · cases hy; exact hg

theorem vramDmaStep_keeps (hc : CoreClosed P) (hd : DeviceClosed P) {s : State} (hP : P s) :
    Keeps P (vramDmaStep s) := by
  unfold vramDmaStep
  split
  · exact keeps_next hP
  · rename_i x hx
    split
    · rename_i hk
      exact vramBurst_keeps hc hd (fun y hy => by rw [hx] at hy; cases hy; exact hk) hP
    · unfold vramHblank
      split
      · split
        · rename_i hq
          simp only [Bool.and_eq_true, decide_eq_true_eq] at hq
          exact vramCopy_keeps hc hd hx (fun _ => hq.2) hP
        · exact keeps_next hP
      · exact keeps_next (hd.vramLine s x hx hP)

theorem deviceCycle_keeps (hc : CoreClosed P) (hd : DeviceClosed P) {s : State} (hP : P s) : Keeps P (deviceCycle s) :=
  keeps_andThen (oamDmaStep_keeps hc hd (timerStep_keeps hc hd (hd.ppu s hP))) fun _ ht => vramDmaStep_keeps hc hd ht

theorem deviceCycles_keeps (hc : CoreClosed P) (hd : DeviceClosed P) {n : Nat} {s : State} (hP : P s) :
    Keeps P (deviceCycles n s) := by
  induction n generalizing s with
  | zero => exact keeps_next hP
  | succ k ih => exact keeps_andThen (deviceCycle_keeps hc hd hP) fun _ ht => ih ht

theorem devicePhase_keeps (hc : CoreClosed P) (hd : DeviceClosed P) {speed0 : Bool} {s : State} (hP : P s) :
    Keeps P (devicePhase speed0 s) := deviceCycles_keeps hc hd (padStep_keeps hc hd hP)

theorem accountFrame_keeps (hd : DeviceClosed P) {s : State} (hP : P s) : P (accountFrame s) := by
  unfold accountFrame; split
  · exact hd.account s _ _ hP
  · exact hd.account s s.apu _ hP

/-! ### The step -/

/-- Every step keeps a property that the elementary changes keep. -/
theorem step_keeps (hc : CoreClosed P) (hd : DeviceClosed P) {s : State} (hP : P s) : Keeps P (step s) := by
  unfold step
  split
  · exact keeps_fault _
  · refine keeps_andThen (executePhase_keeps hc (promote_keeps hc (hc.core_of (hd.pad s s.pad.sample hP) rfl))) fun t ht => ?_
    exact keeps_andThen (checkInterrupts_keeps hc ht) fun u hu =>
      keeps_andThen (devicePhase_keeps hc hd hu) fun w hw => keeps_next (accountFrame_keeps hd hw)

end Sys2Proof.Machine
end

