-- ==== Sys2Proof/Laws/Devices.lean ====
section
/-! SUPPORT. What the devices can do, said once: the frame of each device's step, the requests it makes, and what a PPU step
does to the position. -/

namespace Sys2Proof.Machine

/-! ### Requests -/

theorem raiseIf_bit (s : State) (c : Bool) (n : IntSource) (k : Nat) :
    (s.raiseIf c n).iflag.getLsbD k = (s.iflag.getLsbD k || (c && decide (k = n.bit))) := by
  unfold State.raiseIf State.raise
  cases c
  · simp
  · rcases Nat.lt_or_ge k 5 with hk | hk
    · cases n <;> interval_cases k <;> simp [IntSource.mask, IntSource.bit]
    · have : k ≠ n.bit := by cases n <;> simp [IntSource.bit] <;> omega
      simp [BitVec.getLsbD_of_ge, hk, this]

/-! ### The timer -/

theorem Timer.period_eq (tac : BitVec 3) : Timer.period tac = [1024, 16, 64, 256].getD (tac.toNat % 4) 0 := by
  revert tac
  decide

theorem Timer.stepDiv_frame (t : Timer) :
    t.stepDiv.tima = t.tima ∧ t.stepDiv.timaSub = t.timaSub ∧ t.stepDiv.tac = t.tac ∧ t.stepDiv.tma = t.tma := by
  unfold Timer.stepDiv
  split <;> exact ⟨rfl, rfl, rfl, rfl⟩

theorem Timer.stepTima_frame (t : Timer) :
    t.stepTima.div = t.div ∧ t.stepTima.divSub = t.divSub ∧ t.stepTima.tac = t.tac ∧ t.stepTima.tma = t.tma := by
  unfold Timer.stepTima
  (repeat' split) <;> exact ⟨rfl, rfl, rfl, rfl⟩

theorem Timer.step_frame (t : Timer) : t.step.tac = t.tac ∧ t.step.tma = t.tma :=
  ⟨(Timer.stepTima_frame _).2.2.1.trans (Timer.stepDiv_frame t).2.2.1,
    (Timer.stepTima_frame _).2.2.2.trans (Timer.stepDiv_frame t).2.2.2⟩

theorem timerStep_frame (s : State) :
    timerStep s = { s with timer := s.timer.step, iflag := (timerStep s).iflag } := by
  unfold timerStep State.raiseIf
  split <;> rfl

/-! ### The joypad -/

theorem padStep_frame (s : State) : padStep s = { s with pad := s.pad.remember, iflag := (padStep s).iflag } := by
  unfold padStep State.raiseIf
  split <;> rfl

theorem padStep_bit (s : State) (k : Nat) :
    (padStep s).iflag.getLsbD k = (s.iflag.getLsbD k || (s.pad.falls && decide (k = 4))) :=
  raiseIf_bit s s.pad.falls .joypad k

/-! ### The PPU -/

theorem xferLen_bounds (line : LineState) : 168 ≤ Config.xferLen line ∧ Config.xferLen line ≤ 291 := by
  unfold Config.xferLen
  have := (Config.xferStall line).isLt
  omega

/-- One step of a sound PPU with the LCD on: the position moves by one dot and the PPU stays sound. -/
theorem Ppu.step_on (p : Ppu) (oam : Nat → Byte) (h : p.sound) (on : p.lcdOn = true) :
    (p.step oam).sound ∧ (p.step oam).lcdOn = true ∧ (p.step oam).dot = (p.dot + 1) % 456 ∧
      (p.step oam).ly.toNat = (if p.dot = 455 then (p.ly.toNat + 1) % 154 else p.ly.toNat) := by
  obtain ⟨h1, h2, h3, h4, h5⟩ := h
  rw [on] at h5; simp only [if_true] at h5
  have e : p.step oam = ((p.tick).fixXfer oam).settle := by unfold Ppu.step; rw [on]; rfl
  have t1 : p.tick.lcdOn = true ∧ p.tick.dot = (p.dot + 1) % 456 ∧ p.tick.ly.toNat = (if p.dot = 455 then (p.ly.toNat + 1) % 154 else p.ly.toNat) ∧ p.tick.xfer = p.xfer := by
    unfold Ppu.tick
    split
    · rename_i hh
      refine ⟨on, by simp only; omega, ?_, rfl⟩
      rw [if_pos (by omega)]; simp; omega
    · rename_i hh
      refine ⟨on, by simp only; omega, ?_, rfl⟩
      rw [if_neg (by omega)]
  obtain ⟨a, b, c, d⟩ := t1
  generalize p.tick = q at *
  have t2 : (q.fixXfer oam).lcdOn = true ∧ (q.fixXfer oam).dot = q.dot ∧ (q.fixXfer oam).ly = q.ly ∧ 168 ≤ (q.fixXfer oam).xfer ∧ (q.fixXfer oam).xfer ≤ 291 := by
    unfold Ppu.fixXfer
    split
    · exact ⟨a, rfl, rfl, (xferLen_bounds _).1, (xferLen_bounds _).2⟩
    · exact ⟨a, rfl, rfl, by rw [d]; exact h3, by rw [d]; exact h4⟩
  generalize q.fixXfer oam = r at *
  obtain ⟨a', b', c', d', e'⟩ := t2
  have hon : r.settle.lcdOn = true := a'
  have hd : r.settle.dot = q.dot := b'
  have hl : r.settle.ly = q.ly := c'
  rw [e]
  refine ⟨⟨?_, ?_, d', e', ?_⟩, hon, by rw [hd, b], by rw [hl, c]⟩
  · rw [hl, c]; split <;> omega
  · rw [hd, b]; omega
  · rw [hon]; simp only [if_true]; rfl

/-- A step changes neither the LYC register nor the enables, and leaves no coincidence to be requested. -/
theorem Ppu.step_frame (p : Ppu) (oam : Nat → Byte) :
    (p.step oam).lyc = p.lyc ∧ (p.step oam).statEnables = p.statEnables ∧ (p.step oam).lycRose = false := by
  unfold Ppu.step
  split
  · unfold Ppu.settle Ppu.fixXfer Ppu.tick
    split <;> split <;> exact ⟨rfl, rfl, rfl⟩
  · exact ⟨rfl, rfl, rfl⟩

/-- One step with the LCD off. -/
theorem Ppu.step_off (p : Ppu) (oam : Nat → Byte) (h : p.lcdOn = false) :
    p.step oam = { p with lycRose := false } := by
  unfold Ppu.step
  rw [h]
  rfl

@[simp] theorem Sched.announce_announced (c : Sched) : c.announce.announced = some screenSize := rfl

/-- What a frame's end changes of the scheduler. -/
theorem Sched.afterFrame_frame (c : Sched) (ends : Bool) :
    c.afterFrame ends = { c with frames := c.frames + (if ends then 1 else 0)
                                 announced := if ends then some screenSize else c.announced } := by
  cases ends <;> rfl

/-- What the LCD's going off changes of the scheduler. -/
theorem Sched.afterClear_frame (c : Sched) (clears : Bool) :
    c.afterClear clears = { c with clears := c.clears + (if clears then 1 else 0)
                                   announced := if clears then some screenSize else c.announced } := by
  cases clears <;> rfl

theorem ppuStep_frame (s : State) :
    ppuStep s = { s with ppu := s.ppu.step s.oamByte, iflag := (ppuStep s).iflag,
                         sched := s.sched.afterFrame (s.ppu.endsFrame (s.ppu.step s.oamByte)) } := by
  unfold ppuStep State.raiseIf
  simp only
  split <;> split <;> rfl

theorem ppuStep_bit (s : State) (k : Nat) :
    (ppuStep s).iflag.getLsbD k =
      (s.iflag.getLsbD k || (s.ppu.entersVblank (s.ppu.step s.oamByte) && decide (k = 0)) ||
        (s.ppu.raisesStat (s.ppu.step s.oamByte) s.launch.statLycInterrupt && decide (k = 1))) := by
  show ((s.raiseIf _ .vblank).raiseIf _ .lcdStat).iflag.getLsbD k = _
  rw [raiseIf_bit, raiseIf_bit]
  rfl

/-! ### DMA -/

/-- What a DMA step may change. -/
def DmaFrame (s t : State) : Prop := t = { s with mem := t.mem, dma := t.dma, draws := t.draws }

theorem DmaFrame.trans {s t u : State} (h : DmaFrame s t) (h' : DmaFrame t u) : DmaFrame s u := by
  unfold DmaFrame at *
  rw [h', h]

theorem oamDmaStep_frame {s t : State} (h : oamDmaStep s = .next t) : DmaFrame s t := by
  unfold oamDmaStep at h
  split at h
  · cases h; rfl
  · obtain ⟨v, u, h1, h2⟩ := withValue_eq_next h
    obtain ⟨_, _, c⟩ := busRead_eq_ok h1
    cases h2
    subst c
    rfl

theorem vramCopy_frame {x : VramXfer} {s t : State} (h : vramCopy x s = .next t) : DmaFrame s t := by
  unfold vramCopy at h
  split at h
  · cases h; rfl
  · obtain ⟨v, u, h1, h2⟩ := withValue_eq_next h
    obtain ⟨_, _, c⟩ := busRead_eq_ok h1
    cases h2
    subst c
    rfl

theorem vramBurst_frame {n : Nat} {s t : State} (h : vramBurst n s = .next t) : DmaFrame s t := by
  induction n generalizing s with
  | zero => cases h; rfl
  | succ k ih =>
    unfold vramBurst at h
    split at h
    · cases h; rfl
    · obtain ⟨u, h1, h2⟩ := andThen_eq_next h
      exact (vramCopy_frame h1).trans (ih h2)

theorem vramDmaStep_frame {s t : State} (h : vramDmaStep s = .next t) : DmaFrame s t := by
  unfold vramDmaStep at h
  split at h
  · cases h; rfl
  · split at h
    · exact vramBurst_frame h
    · unfold vramHblank at h
      split at h
      · split at h
        · exact vramCopy_frame h
        · cases h; rfl
      · cases h; rfl

theorem dmaStep_frame {s t : State} (h : dmaStep s = .next t) : DmaFrame s t := by
  obtain ⟨u, h1, h2⟩ := andThen_eq_next h
  exact (oamDmaStep_frame h1).trans (vramDmaStep_frame h2)

theorem vramCopy_oam {x : VramXfer} {s t : State} (h : vramCopy x s = .next t) : t.dma.oam = s.dma.oam := by
  unfold vramCopy at h
  split at h
  · cases h; rfl
  · obtain ⟨v, u, h1, h2⟩ := withValue_eq_next h
    obtain ⟨_, _, c⟩ := busRead_eq_ok h1
    cases h2
    subst c
    rfl

theorem vramBurst_oam {n : Nat} {s t : State} (h : vramBurst n s = .next t) : t.dma.oam = s.dma.oam := by
  induction n generalizing s with
  | zero => cases h; rfl
  | succ k ih =>
    unfold vramBurst at h
    split at h
    · cases h; rfl
    · obtain ⟨u, h1, h2⟩ := andThen_eq_next h
      exact (ih h2).trans (vramCopy_oam h1)

/-- The VRAM transfer's part of a DMA step leaves the OAM transfer alone. -/
theorem vramDmaStep_oam {s t : State} (h : vramDmaStep s = .next t) : t.dma.oam = s.dma.oam := by
  unfold vramDmaStep at h
  split at h
  · cases h; rfl
  · split at h
    · exact vramBurst_oam h
    · unfold vramHblank at h
      split at h
      · split at h
        · exact vramCopy_oam h
        · cases h; rfl
      · cases h; rfl

/-- A DMA step moves a running OAM transfer by one byte. -/
theorem dmaStep_oam {s t : State} (h : dmaStep s = .next t) : t.dma.oam = s.dma.oam.bind OamXfer.advance := by
  obtain ⟨u, h1, h2⟩ := andThen_eq_next h
  rw [vramDmaStep_oam h2]
  unfold oamDmaStep at h1
  split at h1
  · rename_i none
    cases h1
    rw [none]
    rfl
  · rename_i x some
    obtain ⟨v, w, -, h4⟩ := withValue_eq_next h1
    cases h4
    rw [some]
    rfl

/-- The DMA engine reads what `State.sourceByte` says, with the draw to come for the open bits. -/
theorem busByte_eq (addr : Word) (s : State) : busByte addr s = s.sourceByte s.draw addr := by
  have h : ppuHolds addr s = true ↔ s.launch.hwAccessRestrictions = true ∧
      ((0xFE00 ≤ addr.toNat ∧ addr.toNat ≤ 0xFE9F ∧ (s.ppu.mode = .oamSearch ∨ s.ppu.mode = .pixelTransfer)) ∨
        (0x8000 ≤ addr.toNat ∧ addr.toNat ≤ 0x9FFF ∧ s.ppu.mode = .pixelTransfer)) := by
    simp only [ppuHolds, Bool.and_eq_true, Bool.or_eq_true, decide_eq_true_eq, and_assoc,
      show addr.toNat ≤ 0xFE9F ↔ addr.toNat < 0xFEA0 from Nat.lt_succ_iff.symm,
      show addr.toNat ≤ 0x9FFF ↔ addr.toNat < 0xA000 from Nat.lt_succ_iff.symm]
  exact if_congr h rfl rfl

theorem sourceByte_congr {s t : State} (hl : t.launch = s.launch) (hp : t.ppu = s.ppu) {d : Byte} {addr : Word}
    (h : peek d addr t = peek d addr s) : t.sourceByte d addr = s.sourceByte d addr := by
  unfold State.sourceByte
  rw [hl, hp, h]

/-- One byte of a VRAM transfer: over, a fault, or copied. -/
theorem vramCopy_cases (x : VramXfer) (s : State) :
    (x.exhausted = true → vramCopy x s = .next { s with dma := { s.dma with vram := none } }) ∧
      (x.exhausted = false → locate s x.src = .undefined →
        vramCopy x s = .fault (raiseFault (.undefinedIo x.src .read) s)) ∧
      (x.exhausted = false → locate s x.src ≠ .undefined →
        vramCopy x s = .next { s with
          mem := Memory.write s.mem (Key.vram s.vramBank (x.dst.toNat - 0x8000)) (s.sourceByte s.draw x.src)
          draws := s.draws + 1
          dma := { s.dma with vram := x.advance } }) := by
  refine ⟨fun h => ?_, fun h hl => ?_, fun h hl => ?_⟩ <;> unfold vramCopy
  · rw [if_pos h]
  · rw [h]
    simp [busRead, busReadFault, hl]
  · rw [h]
    simp only [Bool.false_eq_true, if_false, busRead, busReadFault, hl, withValue_ok, busByte_eq]
    rfl

/-- The address of the OAM transfer's next byte. -/
theorem OamXfer.source_eq (x : OamXfer) (h : x.index < 256) : x.source = x.page ++ BitVec.ofNat 8 x.index := by
  have sum : ∀ y : Byte, (x.page ++ y : BitVec (8 + 8)).toNat = x.page.toNat * 256 + y.toNat := by
    intro y
    rw [BitVec.toNat_append, ← Nat.shiftLeft_add_eq_or_of_lt y.isLt, Nat.shiftLeft_eq]
  have hp := x.page.isLt
  have hi : (x.page ++ BitVec.ofNat 8 x.index : Word).toNat = x.page.toNat * 256 + x.index :=
    (sum _).trans (by simp; omega)
  have h0 : (x.page ++ (0 : Byte) : Word).toNat = x.page.toNat * 256 := (sum _).trans (by simp)
  unfold OamXfer.source word
  rw [← BitVec.toNat_inj, hi, BitVec.toNat_add, h0]
  simp
  omega

/-! ### A device cycle -/

theorem deviceCycle_eq_next {s t : State} (h : deviceCycle s = .next t) :
    t.timer = s.timer.step ∧ t.ppu = s.ppu.step s.oamByte ∧
      (∀ k, t.iflag.getLsbD k =
        ((ppuStep s).iflag.getLsbD k || (s.timer.overflows && decide (k = 2)))) ∧
      t = { s with timer := t.timer, ppu := t.ppu, iflag := t.iflag, dma := t.dma, mem := t.mem, draws := t.draws,
                   sched := s.sched.afterFrame (s.ppu.endsFrame (s.ppu.step s.oamByte)) } := by
  have f := dmaStep_frame h
  unfold DmaFrame at f
  have ht : (ppuStep s).timer = s.timer := by rw [ppuStep_frame]
  have e := timerStep_frame (ppuStep s)
  rw [ht] at e
  refine ⟨by rw [f, e], by rw [f, e]; rfl, fun k => ?_, ?_⟩
  · have b := raiseIf_bit (ppuStep s) (ppuStep s).timer.overflows .timer k
    rw [ht] at b
    rw [f]
    refine Eq.trans ?_ b
    unfold timerStep
    rw [ht]
  · rw [f, e, ppuStep_frame s]

theorem deviceCycle_oam {s t : State} (h : deviceCycle s = .next t) : t.dma.oam = s.dma.oam.bind OamXfer.advance := by
  have e : (timerStep (ppuStep s)).dma = s.dma := by rw [timerStep_frame, ppuStep_frame]
  exact e ▸ dmaStep_oam h

/-! ### The sound processor -/

/-- A channel that the power bit or a mask gates off keeps its state, 60_exceptions.md R531. -/
theorem Apu.stepChannel_gated {u : Apu} {c : Chan} (h : u.runs c = false) (regs : List Byte) (cycles : Nat)
    (k : ApuChannel) : u.stepChannel c regs cycles k = k := by
  unfold Apu.stepChannel
  rw [h]
  rfl

end Sys2Proof.Machine
end

