-- ==== Sys2Proof/Laws/Families.lean ====
section
/-! SUPPORT. What `exec` runs for each family of instructions: one equation per family, so that a proof about a family opens
the dispatch once and no proof meets the 512 arms. -/

namespace Sys2Proof.Machine

theorem exec_ldRegReg (dst src : Reg8) (s : State) : exec (Instr.ldRegReg dst src) s = loadReg dst src s := by
  cases dst <;> cases src <;> rfl

theorem exec_ldRegHL (r : Reg8) (s : State) : exec (Instr.ldRegHL r) s = loadFrom r s.hl 8 s := by cases r <;> rfl

theorem exec_ldHLReg (r : Reg8) (s : State) : exec (Instr.ldHLReg r) s = storeReg r s.hl 8 s := by cases r <;> rfl

theorem exec_ldRegImm (r : Reg8) (n : Byte) (s : State) : exec (Instr.ldRegImm r n) s = loadImm r n s := by
  cases r <;> rfl

theorem exec_incReg (r : Reg8) (s : State) : exec (Instr.incReg r) s = stepReg inc8 r s := by cases r <;> rfl

theorem exec_decReg (r : Reg8) (s : State) : exec (Instr.decReg r) s = stepReg dec8 r s := by cases r <;> rfl

theorem exec_aluReg (op : AluOp) (r : Reg8) (s : State) : exec (Instr.aluReg op r) s = aluWithReg op r s := by
  cases op <;> cases r <;> rfl

theorem exec_aluHL (op : AluOp) (s : State) : exec (Instr.aluHL op) s = aluWithHL op s := by cases op <;> rfl

theorem exec_aluImm (op : AluOp) (n : Byte) (s : State) : exec (Instr.aluImm op n) s = aluWithImm op n s := by
  cases op <;> rfl

theorem exec_ldPairImm (p : RegPair) (nn : Word) (s : State) : exec (Instr.ldPairImm p nn) s = loadPair p nn s := by
  cases p <;> rfl

theorem exec_addHLPair (p : RegPair) (s : State) : exec (Instr.addHLPair p) s = addToHL p s := by cases p <;> rfl

theorem exec_incPair (p : RegPair) (s : State) : exec (Instr.incPair p) s = stepPair 1 p s := by cases p <;> rfl

theorem exec_decPair (p : RegPair) (s : State) : exec (Instr.decPair p) s = stepPair (-1) p s := by cases p <;> rfl

theorem exec_pushPair (p : StackPair) (s : State) : exec (Instr.pushPair p) s = pushPair p s := by cases p <;> rfl

theorem exec_popPair (p : StackPair) (s : State) : exec (Instr.popPair p) s = popPair p s := by cases p <;> rfl

theorem exec_jrCond (cc : Cond) (e : Byte) (s : State) : exec (Instr.jrCond cc e) s = relativeIf cc e s := by
  cases cc <;> rfl

theorem exec_jpCond (cc : Cond) (nn : Word) (s : State) : exec (Instr.jpCond cc nn) s = jumpIf cc nn s := by
  cases cc <;> rfl

theorem exec_callCond (cc : Cond) (nn : Word) (s : State) : exec (Instr.callCond cc nn) s = callIf cc nn s := by
  cases cc <;> rfl

theorem exec_retCond (cc : Cond) (s : State) : exec (Instr.retCond cc) s = returnIf cc s := by cases cc <;> rfl

theorem exec_rst (t : Fin 8) (s : State) : exec (Instr.rst t) s = callTo (rstTarget t) 16 s := by fin_cases t <;> rfl

theorem exec_rotReg (op : RotOp) (r : Reg8) (s : State) : exec (Instr.rotReg op r) s = rotateReg op r s := by
  cases op <;> cases r <;> rfl

theorem exec_rotHL (op : RotOp) (s : State) : exec (Instr.rotHL op) s = rotateHL op s := by cases op <;> rfl

theorem exec_bitReg (b : Fin 8) (r : Reg8) (s : State) : exec (Instr.bitReg b r) s = testBitReg b r s := by
  fin_cases b <;> cases r <;> rfl

theorem exec_bitHL (b : Fin 8) (s : State) : exec (Instr.bitHL b) s = testBitHL b s := by fin_cases b <;> rfl

theorem exec_resReg (b : Fin 8) (r : Reg8) (s : State) : exec (Instr.resReg b r) s = resetBitReg b r s := by
  fin_cases b <;> cases r <;> rfl

theorem exec_resHL (b : Fin 8) (s : State) : exec (Instr.resHL b) s = resetBitHL b s := by fin_cases b <;> rfl

theorem exec_setReg (b : Fin 8) (r : Reg8) (s : State) : exec (Instr.setReg b r) s = setBitReg b r s := by
  fin_cases b <;> cases r <;> rfl

theorem exec_setHL (b : Fin 8) (s : State) : exec (Instr.setHL b) s = setBitHL b s := by fin_cases b <;> rfl

end Sys2Proof.Machine
end

