-- ==== Sys2Proof/Laws/Frames.lean ====
section
/-! SUPPORT. The frames: what a change of the core's registers and a write through the address map leave alone, in the
terms of Sys2Proof/Safety.lean. -/

namespace Sys2Proof.Machine

/-! ### States that share the bus -/

theorem State.sameBus.symm {s t : State} (h : s.sameBus t) : t.sameBus s := by
  obtain ⟨a, b, c, d, e, f, g, i, j, k, l, m⟩ := h
  exact ⟨a.symm, b.symm, c.symm, d.symm, e.symm, f.symm, g.symm, i.symm, j.symm, k.symm, l.symm, m.symm⟩

theorem State.sameBus.locate {s t : State} (h : s.sameBus t) (addr : Word) : locate t addr = locate s addr :=
  locate_congr h.2.2.2.2.2.2.2.2.2.2.2 (by rw [h.2.2.2.2.1]) h.2.1 addr

/-- The frame of a change of registers, flags, pc, sp and counters. -/
theorem coreFrame_of {s t : State} {changed : List Reg8} (hr : ∀ q, q ∉ changed → t.reg q = s.reg q)
    (h : t = { s with regs := t.regs, flags := t.flags, pc := t.pc, sp := t.sp, cyc := t.cyc, draws := t.draws }) :
    s.coreFrame t changed := by
  refine ⟨hr, fun d b => peek_congr ?_ d b, h⟩
  rw [h]
  exact ⟨rfl, rfl, rfl, rfl, rfl, rfl, rfl, rfl, rfl, rfl, rfl, rfl⟩

/-- A store frame speaks of what the bus shows only. -/
theorem storeFrame_congr {s s' t t' : State} {addr : Word} (hs : s.sameBus s') (ht : t.sameBus t')
    (h : s.storeFrame t addr) : s'.storeFrame t' addr := by
  obtain ⟨h1, h2⟩ := h
  refine ⟨fun a b c => ?_, fun d b hl hn hi => ?_⟩
  · rw [ht.locate, hs.locate]
    rw [hs.locate] at a
    exact h1 a (fun key hk => b key (by rw [hs.locate, hk])) c
  · rw [peek_congr ht, peek_congr hs]
    rw [ht.locate, hs.locate] at hl
    rw [hs.locate, hs.locate] at hn hi
    exact h2 d b hl hn hi

/-! ### The cells behind the places -/

/-- Where the cells of each kind of place lie: VRAM below 0x14000, external RAM below 0x40000, then the MBC2's cells, and
the ROM image far above the palettes. -/
def Loc.keyFits (l : Loc) : Prop :=
  match l with
  | .rom key => 0x1000000 ≤ key
  | .ram key =>
    ((0xC000 ≤ key ∧ key < 0x14000) ∨ (0x20000 ≤ key ∧ key < 0x40000)) ∧
      ¬(key = 0xFF15 ∨ key = 0xFF1F ∨ (0xFF27 ≤ key ∧ key ≤ 0xFF2F))
  | .nibble key => 0x40000 ≤ key ∧ key < 0x40200
  | .soundUnused key => key = 0xFF15 ∨ key = 0xFF1F ∨ (0xFF27 ≤ key ∧ key ≤ 0xFF2F)
  | _ => True

theorem ramByte_cases (c : Cart) (bank off : Nat) (hb : bank ≤ 15) (ho : off < 0x2000) :
    c.ramByte bank off = .absent ∨ ∃ o, c.ramByte bank off = .byte o ∧ o < 0x20000 := by
  unfold Cart.ramByte
  split
  · exact .inl rfl
  · rename_i h0
    split
    · have := Nat.mod_lt (bank * 0x2000 + off) (Nat.pos_of_ne_zero h0)
      exact .inr ⟨_, rfl, by omega⟩
    · split
      · exact .inr ⟨_, rfl, by omega⟩
      · exact .inl rfl

theorem mbc3Target_cases (c : Cart) (sel : Byte) (off : Nat) (ho : off < 0x2000) :
    (∃ r, mbc3Target c sel off = .rtc r) ∨ mbc3Target c sel off = .absent ∨
      ∃ o, mbc3Target c sel off = .byte o ∧ o < 0x20000 := by
  unfold mbc3Target
  split
  · exact .inr (ramByte_cases c _ off (by omega) ho)
  split
  · exact .inl ⟨_, rfl⟩
  split
  · exact .inl ⟨_, rfl⟩
  split
  · exact .inl ⟨_, rfl⟩
  split
  · exact .inl ⟨_, rfl⟩
  split
  · exact .inl ⟨_, rfl⟩
  · exact .inr (.inl rfl)

/-- What an address of the external-RAM window reaches. -/
theorem extRam_cases (c : Cart) (off : Nat) (ho : off < 0x2000) :
    (∃ r, c.extRam off = .rtc r) ∨ c.extRam off = .absent ∨ (∃ o, c.extRam off = .byte o ∧ o < 0x20000) ∨
      ∃ i, c.extRam off = .nibble i ∧ i < 512 := by
  have ram : ∀ bank, bank ≤ 15 → (∃ r, c.ramByte bank off = .rtc r) ∨ c.ramByte bank off = .absent ∨
      (∃ o, c.ramByte bank off = .byte o ∧ o < 0x20000) ∨ ∃ i, c.ramByte bank off = .nibble i ∧ i < 512 := by
    intro bank hb
    rcases ramByte_cases c bank off hb ho with h | h
    · exact .inr (.inl h)
    · exact .inr (.inr (.inl h))
  unfold Cart.extRam
  split
  · exact ram 0 (by omega)
  · rename_i high2 mode en _
    split
    · refine ram _ ?_
      split
      · have := high2.isLt; omega
      · omega
    · exact .inr (.inl rfl)
  · split
    · exact .inr (.inr (.inr ⟨_, rfl, by omega⟩))
    · exact .inr (.inl rfl)
  · split
    · rcases mbc3Target_cases c _ off ho with h | h | h
      · exact .inl h
      · exact .inr (.inl h)
      · exact .inr (.inr (.inl h))
    · exact .inr (.inl rfl)
  · rename_i ramBank en _
    split
    · exact ram _ (by have := ramBank.isLt; omega)
    · exact .inr (.inl rfl)

theorem ioLoc_cases (color : Bool) (n : Nat) :
    (∃ r, ioLoc color n = .io r) ∨ (ioLoc color n = .ram n ∧ 0xFF30 ≤ n ∧ n ≤ 0xFF3F) ∨
      (ioLoc color n = .soundUnused n ∧ (n = 0xFF15 ∨ n = 0xFF1F ∨ (0xFF27 ≤ n ∧ n ≤ 0xFF2F))) ∨
      ioLoc color n = .undefined := by
  unfold ioLoc
  split
  · exact .inl ⟨_, rfl⟩
  · split
    · rename_i h; exact .inr (.inl ⟨rfl, h⟩)
    · split
      · rename_i h; exact .inr (.inr (.inl ⟨rfl, h⟩))
      · exact .inr (.inr (.inr rfl))

/-- Every address reaches a cell in the range of its kind. -/
theorem locate_keyFits (s : State) (addr : Word) : (locate s addr).keyFits := by
  have hlt := addr.isLt
  unfold locate
  simp only
  split
  · simp only [Loc.keyFits, Key.rom]; omega
  split
  · simp only [Loc.keyFits, Key.rom]; omega
  split
  · simp only [Loc.keyFits, Key.vram]; split <;> omega
  split
  · unfold extLoc
    rcases extRam_cases s.cart (addr.toNat - 0xA000) (by omega) with ⟨r, h⟩ | h | ⟨o, h, ho⟩ | ⟨i, h, hi⟩ <;>
      simp only [h, Loc.keyFits, Key.extRam, Key.mbc2] <;> omega
  split
  · simp only [Loc.keyFits]; omega
  split
  · simp only [Loc.keyFits]; omega
  split
  · simp only [Loc.keyFits, Key.oam]; omega
  split
  · trivial
  split
  · rcases ioLoc_cases s.launch.colorMode addr.toNat with ⟨r, h⟩ | ⟨h, h1, h2⟩ | ⟨h, h1⟩ | h <;>
      simp only [h, Loc.keyFits] <;> omega
  split
  · simp only [Loc.keyFits]; omega
  · trivial

/-! ### The frame of a write -/

theorem control_rtc (m : Mapper) (addr : Word) (v : Byte) : (m.control addr v).rtc = m.rtc := by
  unfold Mapper.control
  cases m <;> simp only <;> (repeat' split) <;> rfl

theorem setRtc_get_other (m : Mapper) (r q : RtcReg) (v : Byte) (h : q ≠ r) :
    (m.setRtc r v).rtc.get q = m.rtc.get q := by
  cases m <;> first | rfl | (cases r <;> cases q <;> first | rfl | exact absurd rfl h)

theorem setRtc_extLoc (c : Cart) (r : RtcReg) (v : Byte) (off : Nat) :
    extLoc { c with mapper := c.mapper.setRtc r v } off = extLoc c off := by
  obtain ⟨m, banks, bytes⟩ := c
  cases m <;> rfl

theorem setRtc_romBank (c : Cart) (r : RtcReg) (v : Byte) :
    ({ c with mapper := c.mapper.setRtc r v } : Cart).romBank = c.romBank := by
  obtain ⟨m, banks, bytes⟩ := c
  cases m <;> rfl

/-- A write through an I/O register other than VBK moves nothing in the address map. -/
theorem ioWrite_locate {r : IoReg} (v : Byte) (s : State) (h : r ≠ .vbk) (b : Word) :
    locate (ioWrite r v s) b = locate s b := by
  refine locate_congr (ioWrite_launch r v s) ?_ ?_ b
  · cases r <;> first | rfl | exact absurd rfl h | (unfold ioWrite Ppu.writeLcdc; simp only; (repeat' split) <;> rfl)
  · cases r <;> rfl

theorem poke_locate {addr : Word} (v : Byte) (s : State) (hv : locate s addr ≠ .io .vbk)
    (hr : ∀ key, locate s addr ≠ .rom key) (b : Word) : locate (poke addr v s) b = locate s b := by
  unfold poke
  split
  · rename_i key h; exact absurd h (hr key)
  · exact locate_congr rfl rfl rfl b
  · exact locate_congr rfl rfl rfl b
  · rename_i r h
    unfold locate State.setMapper
    simp only [setRtc_extLoc, setRtc_romBank]
    rfl
  · rfl
  · rfl
  · rename_i r h
    exact ioWrite_locate v s (fun he => hv (by rw [h, he])) b
  · exact locate_congr rfl rfl rfl b
  · exact locate_congr rfl rfl rfl b
  · rfl

/-- The cell behind another place is not the one a write stores to. -/
theorem storeKey_other {addr b : Word} {s : State} {key : Nat} (hne : locate s b ≠ locate s addr)
    (hb : locate s b = .rom key ∨ locate s b = .ram key ∨ locate s b = .nibble key) : storeKey addr s ≠ some key := by
  have fa := locate_keyFits s addr
  have fb := locate_keyFits s b
  have i1 := s.ppu.bcps.index.isLt
  have i2 := s.ppu.ocps.index.isLt
  intro he
  unfold storeKey at he
  split at he <;> first
    | (cases he; done)
    | (rename_i k hk
       injection he with he
       subst he
       rw [hk] at fa hne
       rcases hb with hb | hb | hb <;> rw [hb] at fb hne <;>
         first
         | exact hne rfl
         | (simp only [Loc.keyFits] at fa fb; omega))
    | (injection he with he
       subst he
       rcases hb with hb | hb | hb <;> rw [hb] at fb <;>
         (simp only [Loc.keyFits, Key.bgPal, Key.objPal] at fb; omega))

/-- A write outside the I/O registers leaves every I/O register's value alone. -/
theorem poke_ioRead {addr : Word} (v : Byte) (s : State) (h : (locate s addr).isIo = false) (r : IoReg) (d : Byte) :
    ioRead r d (poke addr v s) = ioRead r d s := by
  have fa := locate_keyFits s addr
  have i1 := s.ppu.bcps.index.isLt
  have i2 := s.ppu.ocps.index.isLt
  have hb : (poke addr v s).cell (Key.bgPal s.ppu.bcps.index.toNat) = s.cell (Key.bgPal s.ppu.bcps.index.toNat) := by
    apply poke_cell_other
    intro he
    unfold storeKey at he
    split at he <;> first
      | (cases he; done)
      | (rename_i k hk
         injection he with he
         rw [hk] at fa
         simp only [Loc.keyFits, Key.bgPal] at fa he
         omega)
      | (rename_i hk; rw [hk] at h; cases h)
  have ho : (poke addr v s).cell (Key.objPal s.ppu.ocps.index.toNat) = s.cell (Key.objPal s.ppu.ocps.index.toNat) := by
    apply poke_cell_other
    intro he
    unfold storeKey at he
    split at he <;> first
      | (cases he; done)
      | (rename_i k hk
         injection he with he
         rw [hk] at fa
         simp only [Loc.keyFits, Key.objPal] at fa he
         omega)
      | (rename_i hk; rw [hk] at h; cases h)
  have fields : (poke addr v s).timer = s.timer ∧ (poke addr v s).dma = s.dma ∧ (poke addr v s).ppu = s.ppu ∧
      (poke addr v s).apu = s.apu ∧ (poke addr v s).pad = s.pad ∧ (poke addr v s).iflag = s.iflag ∧
      (poke addr v s).speedArmed = s.speedArmed := by
    unfold poke
    split <;> first
      | exact ⟨rfl, rfl, rfl, rfl, rfl, rfl, rfl⟩
      | (rename_i q hq; rw [hq] at h; cases h)
  obtain ⟨f1, f2, f3, f4, f5, f6, f7⟩ := fields
  unfold ioRead
  rw [f1, f2, f3, f4, f5, f6, f7, poke_doubleSpeed, hb, ho]

/-- A write keeps what every other place shows, unless both are I/O registers. -/
theorem poke_peek_other {addr b : Word} (v d : Byte) {s : State} (hl : locate (poke addr v s) b = locate s b)
    (hne : locate s b ≠ locate s addr) (hio : ((locate s addr).isIo && (locate s b).isIo) = false) :
    peek d b (poke addr v s) = peek d b s := by
  unfold peek
  rw [hl]
  split
  · rename_i key h; exact poke_cell_other (storeKey_other hne (.inl h))
  · rename_i key h; exact poke_cell_other (storeKey_other hne (.inr (.inl h)))
  · rename_i key h; rw [poke_cell_other (storeKey_other hne (.inr (.inr h)))]
  · rename_i r h
    unfold poke
    split
    · exact congrArg (fun t => Rtc.get t r) (control_rtc _ addr v)
    · rfl
    · rfl
    · rename_i q hq
      exact setRtc_get_other _ q r v (fun he => hne (by rw [h, hq, he]))
    · rfl
    · rfl
    · rename_i q hq
      cases q <;> rfl
    · rfl
    · rfl
    · rfl
  · rfl
  · rfl
  · rename_i r h
    rw [h] at hio
    exact poke_ioRead v s (by simpa [Loc.isIo] using hio) r d
  · rfl
  · rename_i h
    congr 1
    unfold poke
    split <;> first
      | rfl
      | (rename_i q hq; cases q <;> rfl)
      | (rename_i hq; exact absurd (h.trans hq.symm) hne)
  · rfl

/-- The frame of a store. -/
theorem writeByte_storeFrame (addr : Word) (v : Byte) (s : State) : s.storeFrame (writeByte addr v s) addr := by
  unfold writeByte
  split
  · exact ⟨fun _ _ _ => rfl, fun _ _ _ _ _ => rfl⟩
  · exact ⟨fun hv hr b => poke_locate v s hv hr b, fun d b hl hne hio => poke_peek_other v d hl hne hio⟩

end Sys2Proof.Machine
end

