-- ==== Sys2Proof/Laws/Loader.lean ====
section
/-! SUPPORT. What a launch leaves in storage: the canonical form, and the byte under each key. -/

namespace Sys2Proof.Machine

theorem wf_loadCells {base : Nat} {cells mem : List Host.Cell} (w : Memory.wf mem = true) :
    Memory.wf (loadCells base cells mem) = true := by
  induction cells generalizing mem with
  | nil => exact w
  | cons cell rest ih => exact ih (Memory.wf_write _ _ w)

/-- Loading leaves a key alone that no cell has. -/
theorem read_loadCells_other {base key : Nat} {cells mem : List Host.Cell} (h : ∀ cell ∈ cells, key ≠ base + cell.1) :
    Memory.read (loadCells base cells mem) key = Memory.read mem key := by
  induction cells generalizing mem with
  | nil => rfl
  | cons cell rest ih =>
    refine (ih fun c hc => h c (List.mem_cons_of_mem _ hc)).trans ?_
    exact Memory.read_write_other _ (h cell (List.mem_cons_self ..))

/-- The byte loaded at an offset is the list's, wherever the list is loaded. -/
theorem read_loadCells_offset {base off : Nat} {cells mem mem' : List Host.Cell} (w : Memory.wf mem = true)
    (w' : Memory.wf mem' = true) (h : Memory.read mem (base + off) = Memory.read mem' off) :
    Memory.read (loadCells base cells mem) (base + off) = Memory.read (loadCells 0 cells mem') off := by
  induction cells generalizing mem mem' with
  | nil => exact h
  | cons cell rest ih =>
    refine ih (Memory.wf_write _ _ w) (Memory.wf_write _ _ w') ?_
    by_cases e : off = cell.1
    · subst e
      simp only [Nat.zero_add, Memory.read_write_same _ _ w, Memory.read_write_same _ _ w']
    · rw [Memory.read_write_other _ (by omega), Memory.read_write_other _ (by omega), h]

/-- Of a list whose cells are kept, changed or left out by `g`, a key reads as the whole list's byte put through `f`, if
`g` moves no cell and does `f` to the key's own. -/
theorem read_loadCells_filterMap {key : Nat} {f : Byte → Byte} {g : Host.Cell → Option Host.Cell}
    (keeps : ∀ cell c, g cell = some c → c.1 = cell.1) (own : ∀ v, g (key, v) = some (key, f v))
    {cells mem mem' : List Host.Cell} (w : Memory.wf mem = true) (w' : Memory.wf mem' = true)
    (h : Memory.read mem key = f (Memory.read mem' key)) :
    Memory.read (loadCells 0 (cells.filterMap g) mem) key = f (Memory.read (loadCells 0 cells mem') key) := by
  induction cells generalizing mem mem' with
  | nil => exact h
  | cons cell rest ih =>
    obtain ⟨k, v⟩ := cell
    by_cases e : k = key
    · subst e
      rw [List.filterMap_cons_some (own v)]
      refine ih (Memory.wf_write _ _ w) (Memory.wf_write _ _ w') ?_
      simp only [Nat.zero_add, Memory.read_write_same _ _ w, Memory.read_write_same _ _ w']
    · rcases hc : g (k, v) with _ | c
      · rw [List.filterMap_cons_none hc]
        refine ih w (Memory.wf_write _ _ w') ?_
        rw [h, Memory.read_write_other _ (by omega)]
      · rw [List.filterMap_cons_some hc]
        refine ih (Memory.wf_write _ _ w) (Memory.wf_write _ _ w') ?_
        have hk : c.1 = k := keeps _ _ hc
        rw [Memory.read_write_other _ (by omega), Memory.read_write_other _ (by simp only; omega), h]

theorem initialCell_key {cell c : Host.Cell} (h : initialCell cell = some c) : c.1 = cell.1 := by
  unfold initialCell at h
  split at h
  · cases h; rfl
  · split at h
    · cases h; rfl
    · cases h

theorem initialCell_drawn {cell c : Host.Cell} (h : initialCell cell = some c) :
    drawnNibble c.1 = true ∨ drawnKey c.1 = true := by
  have e := initialCell_key h
  unfold initialCell at h
  rw [e]
  split at h
  · exact .inl ‹_›
  · split at h
    · exact .inr ‹_›
    · cases h

/-- RAM has no key of external RAM or of the image. -/
theorem drawn_bounds {key : Nat} (h : drawnNibble key = true ∨ drawnKey key = true) :
    key < 0x20000 ∨ (0x40000 ≤ key ∧ key < 0x51000) := by
  simp only [drawnNibble, drawnKey, decide_eq_true_eq, Key.mbc2, Key.vram, Key.bgPal, Key.objPal] at h
  simp at h
  omega

theorem initialKey_bounds {cell : Host.Cell} {cells : List Host.Cell} (h : cell ∈ cells.filterMap initialCell) :
    cell.1 < 0x20000 ∨ (0x40000 ≤ cell.1 ∧ cell.1 < 0x51000) := by
  obtain ⟨c, -, hc⟩ := List.mem_filterMap.1 h
  exact drawn_bounds (initialCell_drawn hc)

/-- The storage at launch, key by key, 70_reset_and_hazards.md R602. -/
theorem launchMemory_rom (x : LaunchInput) (off : Nat) :
    Memory.read (launchMemory x) (Key.rom off) = x.imageByte off := by
  have e : Key.rom off = Key.rom 0 + off := by unfold Key.rom; omega
  have low : ∀ cell ∈ x.ramInit.filterMap initialCell, Key.rom off ≠ 0 + cell.1 := by
    intro cell hc
    have := initialKey_bounds hc
    unfold Key.rom
    omega
  rw [e]
  refine read_loadCells_offset (wf_loadCells (wf_loadCells Memory.wf_empty)) Memory.wf_empty ?_
  rw [← e, read_loadCells_other, read_loadCells_other low]
  · rfl
  · intro cell hc
    have := of_decide_eq_true (List.mem_filter.1 hc).2
    unfold Key.rom Key.extRam
    omega

theorem launchMemory_extRam (x : LaunchInput) {off : Nat} (h : off < 0x20000) :
    Memory.read (launchMemory x) (Key.extRam off) = listedByte x.extRam off := by
  have e : Key.extRam off = Key.extRam 0 + off := by unfold Key.extRam; omega
  have low : ∀ cell ∈ x.ramInit.filterMap initialCell, Key.extRam off ≠ 0 + cell.1 := by
    intro cell hc
    have := initialKey_bounds hc
    unfold Key.extRam
    omega
  rw [launchMemory, read_loadCells_other, e, read_loadCells_offset (mem' := []) (wf_loadCells Memory.wf_empty) Memory.wf_empty,
    ← List.filterMap_eq_filter]
  · refine read_loadCells_filterMap (f := id) ?_ ?_ Memory.wf_empty Memory.wf_empty rfl
    · intro cell c hc
      rw [Option.guard_eq_some_iff.1 hc |>.1]
    · intro v
      exact Option.guard_eq_some_iff.2 ⟨rfl, decide_eq_true h⟩
  · rw [← e, read_loadCells_other low]
    rfl
  · intro cell _
    unfold Key.extRam Key.rom
    omega

/-- At a key of RAM the launch leaves what `ramInit` gives it; `f` is what such a cell keeps of its byte. -/
theorem launchMemory_initial (x : LaunchInput) {key : Nat} {f : Byte → Byte} (hf : f Memory.unlisted = Memory.unlisted)
    (own : ∀ v, initialCell (key, v) = some (key, f v)) :
    Memory.read (launchMemory x) key = f (listedByte x.ramInit key) := by
  have := drawn_bounds (initialCell_drawn (own 0))
  rw [launchMemory, read_loadCells_other, read_loadCells_other]
  · exact read_loadCells_filterMap (fun _ _ => initialCell_key) own Memory.wf_empty Memory.wf_empty hf.symm
  · intro cell hc
    have := of_decide_eq_true (List.mem_filter.1 hc).2
    unfold Key.extRam
    omega
  · intro cell _
    unfold Key.rom
    omega

theorem launchMemory_ram (x : LaunchInput) {key : Nat} (h : drawnKey key = true) :
    Memory.read (launchMemory x) key = listedByte x.ramInit key := by
  refine launchMemory_initial x (f := id) rfl fun v => ?_
  have hn : ¬ drawnNibble key = true := by
    intro hn
    simp only [drawnNibble, drawnKey, decide_eq_true_eq, Key.mbc2, Key.vram, Key.bgPal, Key.objPal] at h hn
    simp at h hn
    omega
  rw [initialCell, if_neg hn, if_pos h, id]

theorem launchMemory_nibble (x : LaunchInput) {key : Nat} (h : drawnNibble key = true) :
    Memory.read (launchMemory x) key = 0#4 ++ (listedByte x.ramInit key).extractLsb' 0 4 :=
  launchMemory_initial x (f := fun v => 0#4 ++ v.extractLsb' 0 4) (by decide) fun v => by simp only [initialCell, h, if_true]

theorem wf_launchMemory (x : LaunchInput) : Memory.wf (launchMemory x) = true :=
  wf_loadCells (wf_loadCells (wf_loadCells Memory.wf_empty))

end Sys2Proof.Machine
end

