-- ==== Sys2Proof/Laws/Map.lean ====
section
/-! SUPPORT. The address map region by region: what `locate` answers in each range of 20_memory.md R80, and which I/O
addresses exist. -/

namespace Sys2Proof.Machine

theorem locate_rom0 {s : State} {addr : Word} (h : addr.toNat < 0x4000) :
    locate s addr = .rom (Key.rom addr.toNat) := if_pos h

theorem locate_romBank {s : State} {addr : Word} (h : 0x4000 ≤ addr.toNat) (h' : addr.toNat < 0x8000) :
    locate s addr = .rom (Key.rom (s.cart.romBank * 0x4000 + (addr.toNat - 0x4000))) := by
  unfold locate; dsimp only; split_ifs <;> first | omega | rfl

theorem locate_vram {s : State} {addr : Word} (h : 0x8000 ≤ addr.toNat) (h' : addr.toNat < 0xA000) :
    locate s addr = .ram (Key.vram s.vramBank (addr.toNat - 0x8000)) := by
  unfold locate; dsimp only; split_ifs <;> first | omega | rfl

theorem locate_ext {s : State} {addr : Word} (h : 0xA000 ≤ addr.toNat) (h' : addr.toNat < 0xC000) :
    locate s addr = extLoc s.cart (addr.toNat - 0xA000) := by
  unfold locate; dsimp only; split_ifs <;> first | omega | rfl

theorem locate_wram {s : State} {addr : Word} (h : 0xC000 ≤ addr.toNat) (h' : addr.toNat < 0xE000) :
    locate s addr = .ram addr.toNat := by
  unfold locate; dsimp only; split_ifs <;> first | omega | rfl

theorem locate_mirror {s : State} {addr : Word} (h : 0xE000 ≤ addr.toNat) (h' : addr.toNat < 0xFE00) :
    locate s addr = .ram (addr.toNat - 0x2000) := by
  unfold locate; dsimp only; split_ifs <;> first | omega | rfl

theorem locate_oam {s : State} {addr : Word} (h : 0xFE00 ≤ addr.toNat) (h' : addr.toNat < 0xFEA0) :
    locate s addr = .ram (Key.oam (addr.toNat - 0xFE00)) := by
  unfold locate; dsimp only; split_ifs <;> first | omega | rfl

theorem locate_hole {s : State} {addr : Word} (h : 0xFEA0 ≤ addr.toNat) (h' : addr.toNat < 0xFF00) :
    locate s addr = .hole := by
  unfold locate; dsimp only; split_ifs <;> first | omega | rfl

theorem locate_io {s : State} {addr : Word} (h : 0xFF00 ≤ addr.toNat) (h' : addr.toNat < 0xFF80) :
    locate s addr = ioLoc s.launch.colorMode addr.toNat := by
  unfold locate; dsimp only; split_ifs <;> first | omega | rfl

theorem locate_hram {s : State} {addr : Word} (h : 0xFF80 ≤ addr.toNat) (h' : addr.toNat < 0xFFFF) :
    locate s addr = .ram addr.toNat := by
  unfold locate; dsimp only; split_ifs <;> first | omega | rfl

theorem locate_ie {s : State} {addr : Word} (h : addr.toNat = 0xFFFF) : locate s addr = .ie := by
  unfold locate; dsimp only; split_ifs <;> first | omega | rfl

/-- The I/O addresses of 20_memory.md R90 and 60_exceptions.md R530. -/
def IoNamed (color : Bool) (n : Nat) : Prop :=
  n = 0xFF00 ∨ (0xFF04 ≤ n ∧ n ≤ 0xFF07) ∨ (0xFF0F ≤ n ∧ n ≤ 0xFF4B) ∨
    (color = true ∧ (n = 0xFF4D ∨ n = 0xFF4F ∨ (0xFF51 ≤ n ∧ n ≤ 0xFF55) ∨ (0xFF68 ≤ n ∧ n ≤ 0xFF6B)))

/-- Every I/O address, its register number read off the map: undefined exactly where no rule names it, and the OAM DMA
trigger at FF46 alone. -/
theorem ioLoc_table (color : Bool) {n : Nat} (h : 0xFF00 ≤ n) (h' : n < 0xFF80) :
    (ioLoc color n = .undefined ↔ ¬ IoNamed color n) ∧ (ioLoc color n = .io .dma ↔ n = 0xFF46) := by
  have key : ∀ (color : Bool) (k : Fin 128),
      (ioLoc color (0xFF00 + k.val) = .undefined ↔
        ¬ (0xFF00 + k.val = 0xFF00 ∨ (0xFF04 ≤ 0xFF00 + k.val ∧ 0xFF00 + k.val ≤ 0xFF07) ∨
          (0xFF0F ≤ 0xFF00 + k.val ∧ 0xFF00 + k.val ≤ 0xFF4B) ∨
          (color = true ∧ (0xFF00 + k.val = 0xFF4D ∨ 0xFF00 + k.val = 0xFF4F ∨
            (0xFF51 ≤ 0xFF00 + k.val ∧ 0xFF00 + k.val ≤ 0xFF55) ∨
            (0xFF68 ≤ 0xFF00 + k.val ∧ 0xFF00 + k.val ≤ 0xFF6B))))) ∧
      (ioLoc color (0xFF00 + k.val) = .io .dma ↔ 0xFF00 + k.val = 0xFF46) := by
    decide +kernel
  have hk := key color ⟨n - 0xFF00, by omega⟩
  have e : 0xFF00 + (n - 0xFF00) = n := by omega
  simp only [e] at hk
  exact hk

/-- Only an address of the I/O page is undefined. -/
theorem locate_undefined_range {s : State} {addr : Word} (h : locate s addr = .undefined) :
    0xFF00 ≤ addr.toNat ∧ addr.toNat < 0xFF80 := by
  have hlt := addr.isLt
  by_contra hc
  have ext : ∀ c off, extLoc c off ≠ .undefined := by
    intro c off hh
    unfold extLoc at hh
    split at hh <;> cases hh
  rcases Nat.lt_or_ge addr.toNat 0x4000 with h1 | h1
  · rw [locate_rom0 h1] at h; cases h
  rcases Nat.lt_or_ge addr.toNat 0x8000 with h2 | h2
  · rw [locate_romBank h1 h2] at h; cases h
  rcases Nat.lt_or_ge addr.toNat 0xA000 with h3 | h3
  · rw [locate_vram h2 h3] at h; cases h
  rcases Nat.lt_or_ge addr.toNat 0xC000 with h4 | h4
  · rw [locate_ext h3 h4] at h; exact ext _ _ h
  rcases Nat.lt_or_ge addr.toNat 0xE000 with h5 | h5
  · rw [locate_wram h4 h5] at h; cases h
  rcases Nat.lt_or_ge addr.toNat 0xFE00 with h6 | h6
  · rw [locate_mirror h5 h6] at h; cases h
  rcases Nat.lt_or_ge addr.toNat 0xFEA0 with h7 | h7
  · rw [locate_oam h6 h7] at h; cases h
  rcases Nat.lt_or_ge addr.toNat 0xFF00 with h8 | h8
  · rw [locate_hole h7 h8] at h; cases h
  rcases Nat.lt_or_ge addr.toNat 0xFF80 with h9 | h9
  · exact hc ⟨h8, h9⟩
  rcases Nat.lt_or_ge addr.toNat 0xFFFF with h10 | h10
  · rw [locate_hram h9 h10] at h; cases h
  · rw [locate_ie (by omega)] at h; cases h

end Sys2Proof.Machine
end

