-- ==== Sys2Proof/Tests/Slice0.lean ====
section
/-! SUPPORT. Tests of the model and witnesses of the statements. The expected values are those of spec/95_test_vectors.md,
of the instruction rules' worked examples, or of spec/opcode_table.json; none is the model's own answer. A theorem
`witness_X` shows a state and operands that meet the hypotheses of `Obligations.X` together, clause by clause. -/

namespace Sys2Proof.Machine.Slice0

open Sys2Proof Sys2Proof.Machine

-- one theorem after another: each holds a kernel evaluation
set_option Elab.async false

/-! ### Well-formedness: the one check refuses the bare prefix -/

theorem test_wellFormed_refuses_bare_prefix : (Instr.prefixCB 0x00).wellFormed = false := by decide

theorem test_wellFormed_accepts_prefixed : Instr.rlcB.wellFormed = true ∧ (Instr.jpA16 0xFFFF).wellFormed = true := by
  decide

/-! ### Decoding: the words of spec/opcode_table.json and of the formats -/

/-- The opcodes 0x00 to 0x1F of spec/opcode_table.json, 30_encoding.md R160; the operand bytes are AA BB. -/
theorem test_decode_00 :
    ([0x00, 0x01, 0x02, 0x03, 0x04, 0x05, 0x06, 0x07, 0x08, 0x09, 0x0A, 0x0B, 0x0C, 0x0D, 0x0E, 0x0F, 0x10, 0x11,
      0x12, 0x13, 0x14, 0x15, 0x16, 0x17, 0x18, 0x19, 0x1A, 0x1B, 0x1C, 0x1D, 0x1E, 0x1F] : List Byte).map
      (fun op => decodeBytes op 0xAA 0xBB) =
     [.nop, .ldBCD16 0xBBAA, .ldAtBCA, .incBC, .incB, .decB, .ldBD8 0xAA, .rlca, .ldAtA16SP 0xBBAA, .addHLBC,
       .ldAAtBC, .decBC, .incC, .decC, .ldCD8 0xAA, .rrca, .stop 0xAA, .ldDED16 0xBBAA, .ldAtDEA, .incDE, .incD,
       .decD, .ldDD8 0xAA, .rla, .jrE8 0xAA, .addHLDE, .ldAAtDE, .decDE, .incE, .decE, .ldED8 0xAA, .rra] := by
  decide

/-- The opcodes 0x20 to 0x3F of spec/opcode_table.json, 30_encoding.md R160; the operand bytes are AA BB. -/
theorem test_decode_20 :
    ([0x20, 0x21, 0x22, 0x23, 0x24, 0x25, 0x26, 0x27, 0x28, 0x29, 0x2A, 0x2B, 0x2C, 0x2D, 0x2E, 0x2F, 0x30, 0x31,
      0x32, 0x33, 0x34, 0x35, 0x36, 0x37, 0x38, 0x39, 0x3A, 0x3B, 0x3C, 0x3D, 0x3E, 0x3F] : List Byte).map
      (fun op => decodeBytes op 0xAA 0xBB) =
     [.jrNZE8 0xAA, .ldHLD16 0xBBAA, .ldAtHLIncA, .incHL, .incH, .decH, .ldHD8 0xAA, .daa, .jrZE8 0xAA, .addHLHL,
       .ldAAtHLInc, .decHL, .incL, .decL, .ldLD8 0xAA, .cpl, .jrNCE8 0xAA, .ldSPD16 0xBBAA, .ldAtHLDecA, .incSP,
       .incAtHL, .decAtHL, .ldAtHLD8 0xAA, .scf, .jrCE8 0xAA, .addHLSP, .ldAAtHLDec, .decSP, .incA, .decA, .ldAD8
      0xAA, .ccf] := by
  decide

/-- The opcodes 0x40 to 0x5F of spec/opcode_table.json, 30_encoding.md R160; the operand bytes are AA BB. -/
theorem test_decode_40 :
    ([0x40, 0x41, 0x42, 0x43, 0x44, 0x45, 0x46, 0x47, 0x48, 0x49, 0x4A, 0x4B, 0x4C, 0x4D, 0x4E, 0x4F, 0x50, 0x51,
      0x52, 0x53, 0x54, 0x55, 0x56, 0x57, 0x58, 0x59, 0x5A, 0x5B, 0x5C, 0x5D, 0x5E, 0x5F] : List Byte).map
      (fun op => decodeBytes op 0xAA 0xBB) =
     [.ldBB, .ldBC, .ldBD, .ldBE, .ldBH, .ldBL, .ldBAtHL, .ldBA, .ldCB, .ldCC, .ldCD, .ldCE, .ldCH, .ldCL, .ldCAtHL,
       .ldCA, .ldDB, .ldDC, .ldDD, .ldDE, .ldDH, .ldDL, .ldDAtHL, .ldDA, .ldEB, .ldEC, .ldED, .ldEE, .ldEH, .ldEL,
       .ldEAtHL, .ldEA] := by
  decide

/-- The opcodes 0x60 to 0x7F of spec/opcode_table.json, 30_encoding.md R160; the operand bytes are AA BB. -/
theorem test_decode_60 :
    ([0x60, 0x61, 0x62, 0x63, 0x64, 0x65, 0x66, 0x67, 0x68, 0x69, 0x6A, 0x6B, 0x6C, 0x6D, 0x6E, 0x6F, 0x70, 0x71,
      0x72, 0x73, 0x74, 0x75, 0x76, 0x77, 0x78, 0x79, 0x7A, 0x7B, 0x7C, 0x7D, 0x7E, 0x7F] : List Byte).map
      (fun op => decodeBytes op 0xAA 0xBB) =
     [.ldHB, .ldHC, .ldHD, .ldHE, .ldHH, .ldHL, .ldHAtHL, .ldHA, .ldLB, .ldLC, .ldLD, .ldLE, .ldLH, .ldLL, .ldLAtHL,
       .ldLA, .ldAtHLB, .ldAtHLC, .ldAtHLD, .ldAtHLE, .ldAtHLH, .ldAtHLL, .halt, .ldAtHLA, .ldAB, .ldAC, .ldAD, .ldAE,
       .ldAH, .ldAL, .ldAAtHL, .ldAA] := by
  decide

/-- The opcodes 0x80 to 0x9F of spec/opcode_table.json, 30_encoding.md R160; the operand bytes are AA BB. -/
theorem test_decode_80 :
    ([0x80, 0x81, 0x82, 0x83, 0x84, 0x85, 0x86, 0x87, 0x88, 0x89, 0x8A, 0x8B, 0x8C, 0x8D, 0x8E, 0x8F, 0x90, 0x91,
      0x92, 0x93, 0x94, 0x95, 0x96, 0x97, 0x98, 0x99, 0x9A, 0x9B, 0x9C, 0x9D, 0x9E, 0x9F] : List Byte).map
      (fun op => decodeBytes op 0xAA 0xBB) =
     [.addAB, .addAC, .addAD, .addAE, .addAH, .addAL, .addAAtHL, .addAA, .adcAB, .adcAC, .adcAD, .adcAE, .adcAH,
       .adcAL, .adcAAtHL, .adcAA, .subB, .subC, .subD, .subE, .subH, .subL, .subAtHL, .subA, .sbcAB, .sbcAC, .sbcAD,
       .sbcAE, .sbcAH, .sbcAL, .sbcAAtHL, .sbcAA] := by
  decide

/-- The opcodes 0xA0 to 0xBF of spec/opcode_table.json, 30_encoding.md R160; the operand bytes are AA BB. -/
theorem test_decode_A0 :
    ([0xA0, 0xA1, 0xA2, 0xA3, 0xA4, 0xA5, 0xA6, 0xA7, 0xA8, 0xA9, 0xAA, 0xAB, 0xAC, 0xAD, 0xAE, 0xAF, 0xB0, 0xB1,
      0xB2, 0xB3, 0xB4, 0xB5, 0xB6, 0xB7, 0xB8, 0xB9, 0xBA, 0xBB, 0xBC, 0xBD, 0xBE, 0xBF] : List Byte).map
      (fun op => decodeBytes op 0xAA 0xBB) =
     [.andB, .andC, .andD, .andE, .andH, .andL, .andAtHL, .andA, .xorB, .xorC, .xorD, .xorE, .xorH, .xorL, .xorAtHL,
       .xorA, .orB, .orC, .orD, .orE, .orH, .orL, .orAtHL, .orA, .cpB, .cpC, .cpD, .cpE, .cpH, .cpL, .cpAtHL, .cpA] := by
  decide

/-- The opcodes 0xC0 to 0xDF of spec/opcode_table.json but the prefix, 30_encoding.md R160; the operand bytes are AA BB. -/
theorem test_decode_C0 :
    ([0xC0, 0xC1, 0xC2, 0xC3, 0xC4, 0xC5, 0xC6, 0xC7, 0xC8, 0xC9, 0xCA, 0xCC, 0xCD, 0xCE, 0xCF, 0xD0, 0xD1, 0xD2,
      0xD3, 0xD4, 0xD5, 0xD6, 0xD7, 0xD8, 0xD9, 0xDA, 0xDB, 0xDC, 0xDD, 0xDE, 0xDF] : List Byte).map
      (fun op => decodeBytes op 0xAA 0xBB) =
     [.retNZ, .popBC, .jpNZA16 0xBBAA, .jpA16 0xBBAA, .callNZA16 0xBBAA, .pushBC, .addAD8 0xAA, .rst00H, .retZ, .ret,
       .jpZA16 0xBBAA, .callZA16 0xBBAA, .callA16 0xBBAA, .adcAD8 0xAA, .rst08H, .retNC, .popDE, .jpNCA16 0xBBAA,
       .illegalD3, .callNCA16 0xBBAA, .pushDE, .subD8 0xAA, .rst10H, .retC, .reti, .jpCA16 0xBBAA, .illegalDB,
       .callCA16 0xBBAA, .illegalDD, .sbcAD8 0xAA, .rst18H] := by
  decide

/-- The opcodes 0xE0 to 0xFF of spec/opcode_table.json, 30_encoding.md R160; the operand bytes are AA BB. -/
theorem test_decode_E0 :
    ([0xE0, 0xE1, 0xE2, 0xE3, 0xE4, 0xE5, 0xE6, 0xE7, 0xE8, 0xE9, 0xEA, 0xEB, 0xEC, 0xED, 0xEE, 0xEF, 0xF0, 0xF1,
      0xF2, 0xF3, 0xF4, 0xF5, 0xF6, 0xF7, 0xF8, 0xF9, 0xFA, 0xFB, 0xFC, 0xFD, 0xFE, 0xFF] : List Byte).map
      (fun op => decodeBytes op 0xAA 0xBB) =
     [.ldhAtA8A 0xAA, .popHL, .ldAtCA, .illegalE3, .illegalE4, .pushHL, .andD8 0xAA, .rst20H, .addSPE8 0xAA, .jpHL,
       .ldAtA16A 0xBBAA, .illegalEB, .illegalEC, .illegalED, .xorD8 0xAA, .rst28H, .ldhAAtA8 0xAA, .popAF, .ldAAtC,
       .di, .illegalF4, .pushAF, .orD8 0xAA, .rst30H, .ldHLSPE8 0xAA, .ldSPHL, .ldAAtA16 0xBBAA, .ei, .illegalFC,
       .illegalFD, .cpD8 0xAA, .rst38H] := by
  decide

/-- The prefixed opcodes 0x00 to 0x1F of spec/opcode_table.json, 30_encoding.md R165. -/
theorem test_decode_CB00 :
    ([0x00, 0x01, 0x02, 0x03, 0x04, 0x05, 0x06, 0x07, 0x08, 0x09, 0x0A, 0x0B, 0x0C, 0x0D, 0x0E, 0x0F, 0x10, 0x11,
      0x12, 0x13, 0x14, 0x15, 0x16, 0x17, 0x18, 0x19, 0x1A, 0x1B, 0x1C, 0x1D, 0x1E, 0x1F] : List Byte).map
      (fun op2 => decodeBytes 0xCB op2 0) =
     [.rlcB, .rlcC, .rlcD, .rlcE, .rlcH, .rlcL, .rlcAtHL, .rlcA, .rrcB, .rrcC, .rrcD, .rrcE, .rrcH, .rrcL, .rrcAtHL,
       .rrcA, .rlB, .rlC, .rlD, .rlE, .rlH, .rlL, .rlAtHL, .rlA, .rrB, .rrC, .rrD, .rrE, .rrH, .rrL, .rrAtHL, .rrA] := by
  decide

/-- The prefixed opcodes 0x20 to 0x3F of spec/opcode_table.json, 30_encoding.md R165. -/
theorem test_decode_CB20 :
    ([0x20, 0x21, 0x22, 0x23, 0x24, 0x25, 0x26, 0x27, 0x28, 0x29, 0x2A, 0x2B, 0x2C, 0x2D, 0x2E, 0x2F, 0x30, 0x31,
      0x32, 0x33, 0x34, 0x35, 0x36, 0x37, 0x38, 0x39, 0x3A, 0x3B, 0x3C, 0x3D, 0x3E, 0x3F] : List Byte).map
      (fun op2 => decodeBytes 0xCB op2 0) =
     [.slaB, .slaC, .slaD, .slaE, .slaH, .slaL, .slaAtHL, .slaA, .sraB, .sraC, .sraD, .sraE, .sraH, .sraL, .sraAtHL,
       .sraA, .swapB, .swapC, .swapD, .swapE, .swapH, .swapL, .swapAtHL, .swapA, .srlB, .srlC, .srlD, .srlE, .srlH,
       .srlL, .srlAtHL, .srlA] := by
  decide

/-- The prefixed opcodes 0x40 to 0x5F of spec/opcode_table.json, 30_encoding.md R165. -/
theorem test_decode_CB40 :
    ([0x40, 0x41, 0x42, 0x43, 0x44, 0x45, 0x46, 0x47, 0x48, 0x49, 0x4A, 0x4B, 0x4C, 0x4D, 0x4E, 0x4F, 0x50, 0x51,
      0x52, 0x53, 0x54, 0x55, 0x56, 0x57, 0x58, 0x59, 0x5A, 0x5B, 0x5C, 0x5D, 0x5E, 0x5F] : List Byte).map
      (fun op2 => decodeBytes 0xCB op2 0) =
     [.bit0B, .bit0C, .bit0D, .bit0E, .bit0H, .bit0L, .bit0AtHL, .bit0A, .bit1B, .bit1C, .bit1D, .bit1E, .bit1H,
       .bit1L, .bit1AtHL, .bit1A, .bit2B, .bit2C, .bit2D, .bit2E, .bit2H, .bit2L, .bit2AtHL, .bit2A, .bit3B, .bit3C,
       .bit3D, .bit3E, .bit3H, .bit3L, .bit3AtHL, .bit3A] := by
  decide

/-- The prefixed opcodes 0x60 to 0x7F of spec/opcode_table.json, 30_encoding.md R165. -/
theorem test_decode_CB60 :
    ([0x60, 0x61, 0x62, 0x63, 0x64, 0x65, 0x66, 0x67, 0x68, 0x69, 0x6A, 0x6B, 0x6C, 0x6D, 0x6E, 0x6F, 0x70, 0x71,
      0x72, 0x73, 0x74, 0x75, 0x76, 0x77, 0x78, 0x79, 0x7A, 0x7B, 0x7C, 0x7D, 0x7E, 0x7F] : List Byte).map
      (fun op2 => decodeBytes 0xCB op2 0) =
     [.bit4B, .bit4C, .bit4D, .bit4E, .bit4H, .bit4L, .bit4AtHL, .bit4A, .bit5B, .bit5C, .bit5D, .bit5E, .bit5H,
       .bit5L, .bit5AtHL, .bit5A, .bit6B, .bit6C, .bit6D, .bit6E, .bit6H, .bit6L, .bit6AtHL, .bit6A, .bit7B, .bit7C,
       .bit7D, .bit7E, .bit7H, .bit7L, .bit7AtHL, .bit7A] := by
  decide

/-- The prefixed opcodes 0x80 to 0x9F of spec/opcode_table.json, 30_encoding.md R165. -/
theorem test_decode_CB80 :
    ([0x80, 0x81, 0x82, 0x83, 0x84, 0x85, 0x86, 0x87, 0x88, 0x89, 0x8A, 0x8B, 0x8C, 0x8D, 0x8E, 0x8F, 0x90, 0x91,
      0x92, 0x93, 0x94, 0x95, 0x96, 0x97, 0x98, 0x99, 0x9A, 0x9B, 0x9C, 0x9D, 0x9E, 0x9F] : List Byte).map
      (fun op2 => decodeBytes 0xCB op2 0) =
     [.res0B, .res0C, .res0D, .res0E, .res0H, .res0L, .res0AtHL, .res0A, .res1B, .res1C, .res1D, .res1E, .res1H,
       .res1L, .res1AtHL, .res1A, .res2B, .res2C, .res2D, .res2E, .res2H, .res2L, .res2AtHL, .res2A, .res3B, .res3C,
       .res3D, .res3E, .res3H, .res3L, .res3AtHL, .res3A] := by
  decide

/-- The prefixed opcodes 0xA0 to 0xBF of spec/opcode_table.json, 30_encoding.md R165. -/
theorem test_decode_CBA0 :
    ([0xA0, 0xA1, 0xA2, 0xA3, 0xA4, 0xA5, 0xA6, 0xA7, 0xA8, 0xA9, 0xAA, 0xAB, 0xAC, 0xAD, 0xAE, 0xAF, 0xB0, 0xB1,
      0xB2, 0xB3, 0xB4, 0xB5, 0xB6, 0xB7, 0xB8, 0xB9, 0xBA, 0xBB, 0xBC, 0xBD, 0xBE, 0xBF] : List Byte).map
      (fun op2 => decodeBytes 0xCB op2 0) =
     [.res4B, .res4C, .res4D, .res4E, .res4H, .res4L, .res4AtHL, .res4A, .res5B, .res5C, .res5D, .res5E, .res5H,
       .res5L, .res5AtHL, .res5A, .res6B, .res6C, .res6D, .res6E, .res6H, .res6L, .res6AtHL, .res6A, .res7B, .res7C,
       .res7D, .res7E, .res7H, .res7L, .res7AtHL, .res7A] := by
  decide

/-- The prefixed opcodes 0xC0 to 0xDF of spec/opcode_table.json, 30_encoding.md R165. -/
theorem test_decode_CBC0 :
    ([0xC0, 0xC1, 0xC2, 0xC3, 0xC4, 0xC5, 0xC6, 0xC7, 0xC8, 0xC9, 0xCA, 0xCB, 0xCC, 0xCD, 0xCE, 0xCF, 0xD0, 0xD1,
      0xD2, 0xD3, 0xD4, 0xD5, 0xD6, 0xD7, 0xD8, 0xD9, 0xDA, 0xDB, 0xDC, 0xDD, 0xDE, 0xDF] : List Byte).map
      (fun op2 => decodeBytes 0xCB op2 0) =
     [.set0B, .set0C, .set0D, .set0E, .set0H, .set0L, .set0AtHL, .set0A, .set1B, .set1C, .set1D, .set1E, .set1H,
       .set1L, .set1AtHL, .set1A, .set2B, .set2C, .set2D, .set2E, .set2H, .set2L, .set2AtHL, .set2A, .set3B, .set3C,
       .set3D, .set3E, .set3H, .set3L, .set3AtHL, .set3A] := by
  decide

/-- The prefixed opcodes 0xE0 to 0xFF of spec/opcode_table.json, 30_encoding.md R165. -/
theorem test_decode_CBE0 :
    ([0xE0, 0xE1, 0xE2, 0xE3, 0xE4, 0xE5, 0xE6, 0xE7, 0xE8, 0xE9, 0xEA, 0xEB, 0xEC, 0xED, 0xEE, 0xEF, 0xF0, 0xF1,
      0xF2, 0xF3, 0xF4, 0xF5, 0xF6, 0xF7, 0xF8, 0xF9, 0xFA, 0xFB, 0xFC, 0xFD, 0xFE, 0xFF] : List Byte).map
      (fun op2 => decodeBytes 0xCB op2 0) =
     [.set4B, .set4C, .set4D, .set4E, .set4H, .set4L, .set4AtHL, .set4A, .set5B, .set5C, .set5D, .set5E, .set5H,
       .set5L, .set5AtHL, .set5A, .set6B, .set6C, .set6D, .set6E, .set6H, .set6L, .set6AtHL, .set6A, .set7B, .set7C,
       .set7D, .set7E, .set7H, .set7L, .set7AtHL, .set7A] := by
  decide

/-- Words written bit by bit from R161 to R165: 00 y/dd z; 01 r r'; 10 op3 r; 11 cc/qq/t z; CB 00 op r, CB 01/10/11 b r. -/
theorem test_words_by_fields :
    decode [0b00_101_110#8, 0x80#8] = .ok (.ldLD8 0x80, []) ∧                  -- LD r,d8: r = 101 (L)
    decode [0b00_11_0001#8, 0x34#8, 0x12#8] = .ok (.ldSPD16 0x1234, []) ∧      -- LD dd,d16: dd = 11 (SP), low byte first
    decode [0b01_010_110#8] = .ok (.ldDAtHL, []) ∧                             -- LD r,(HL): r = 010 (D)
    decode [0b10_011_001#8] = .ok (.sbcAC, []) ∧                               -- op3 = 011 (SBC), r = 001 (C)
    decode [0b00_10_1001#8] = .ok (.addHLHL, []) ∧                             -- ADD HL,ss: ss = 10 (HL)
    decode [0b11_11_0101#8] = .ok (.pushAF, []) ∧                              -- PUSH qq: qq = 11 (AF)
    decode [0b110_10_100#8, 0x00#8, 0x30#8] = .ok (.callNCA16 0x3000, []) ∧    -- CALL cc: cc = 10 (NC)
    decode [0b11_101_111#8] = .ok (.rst28H, []) ∧                              -- RST: t = 101
    decode [0xCB#8, 0b00_101_111#8] = .ok (.sraA, []) ∧                        -- SRA: op = 101, r = 111 (A)
    decode [0xCB#8, 0b10_000_110#8] = .ok (.res0AtHL, []) ∧                    -- RES: b = 000, r = 110
    decode [0b11_111_011#8] = .ok (.ei, []) ∧
    decode [0xCB#8] = .error (.truncated 0xCB) ∧ decode [] = .error .empty :=
  ⟨rfl, rfl, rfl, rfl, rfl, rfl, rfl, rfl, rfl, rfl, rfl, rfl, rfl⟩

/-- The table numbers a prefixed row with the prefix in bits 15..8, and an operand's bits above its row's (log 11). -/
theorem test_table_word :
    decodeTableWord 16 0xCB37 = some .swapA ∧ decodeTableWord 8 0xC3 = some (.jpA16 0) ∧
    decodeTableWord 24 0x1234C3 = some (.jpA16 0x1234) := by
  decide

/-! ### One step from the start state of spec/95_test_vectors.md part 2 -/

/-- A to L, F and sp 00, pc = 0200, every device at its reset value. -/
def start : State :=
  { State.reset with
    regs := { a := 0, b := 0, c := 0, d := 0, e := 0, h := 0, l := 0 }
    flags := { z := false, n := false, h := false, cy := false }, pc := 0x0200, sp := 0 }

/-- F written as a byte. -/
def withF (v : Byte) (s : State) : State := { s with flags := Flags.ofByte v }

/-- sp = D000, for the interrupt rows. -/
def stacked : State := { start with sp := 0xD000 }

/-- What `view` shows of the state after one step over `bytes` placed at pc. -/
def after {α : Type} (s : State) (bytes : List Byte) (view : State → α) : Option α :=
  match step (s.placeBytes s.pc bytes) with
  | .next t => some (view t)
  | _ => none

/-- The fault one step over `bytes` ends in, and what `view` shows of the state it leaves. -/
def faulted {α : Type} (s : State) (bytes : List Byte) (view : State → α) : Option (Option FaultReason × α) :=
  match step (s.placeBytes s.pc bytes) with
  | .fault f => some ((faultLeft f).fault, view (faultLeft f))
  | _ => none

/-- A, F, pc and the cycles. -/
def core (t : State) : Byte × Byte × Word × Nat := (t.regs.a, t.flags.toByte, t.pc, t.cyc)

/-- F, a register, and the cycles. -/
def flagged (r : Reg8) (t : State) : Byte × Byte × Nat := (t.flags.toByte, t.reg r, t.cyc)

/-- A byte of memory that has no open bits. -/
def at' (a : Word) (t : State) : Byte := peek 0 a t

/-- sp and the two bytes below D000, where a dispatch or a call from `stacked` pushes. -/
def top (t : State) : Word × Byte × Byte := (t.sp, at' 0xCFFE t, at' 0xCFFF t)

/-- pc, ime, IF and the cycles. -/
def flow (t : State) : Word × Bool × BitVec 5 × Nat := (t.pc, t.ime, t.iflag, t.cyc)

/-! #### 2.1 Loads, stores, PUSH and POP -/

theorem test_ld_a_a : after { start with regs.a := 0x44 } [0x7F] core = some (0x44, 0x00, 0x0201, 4) := by
  decide +kernel

theorem test_ldi_store_wraps_to_ie :
    after { start with regs.a := 0x5C, regs.h := 0xFF, regs.l := 0xFF } [0x22] (fun t => (t.hl, t.ie, t.cyc)) =
      some (0x0000, 0b11100, 8) := by decide +kernel

theorem test_ldd_load_wraps :
    after (start.placeBytes 0 [0x31]) [0x3A] (fun t => (t.regs.a, t.hl, t.cyc)) = some (0x31, 0xFFFF, 8) := by
  decide +kernel

theorem test_ld_c_reaches_if :
    after { start with regs.a := 0x04, regs.c := 0x0F } [0xE2] (fun t => (t.iflag, t.cyc)) = some (0b00100, 8) := by
  decide +kernel

theorem test_ldh_store :
    after { start with regs.a := 0x99 } [0xE0, 0x80] (fun t => (at' 0xFF80 t, t.pc, t.cyc)) =
      some (0x99, 0x0202, 12) := by decide +kernel

theorem test_ld_a16_store :
    after { start with regs.a := 0x77 } [0xEA, 0x00, 0xD0] (fun t => (at' 0xD000 t, t.pc, t.cyc)) =
      some (0x77, 0x0203, 16) := by decide +kernel

theorem test_ld_sp_hl :
    after { start with regs.h := 0xC1, regs.l := 0x23 } [0xF9] (fun t => (t.sp, t.cyc)) = some (0xC123, 8) := by
  decide +kernel

theorem test_push_af :
    after (withF 0xB0 { stacked with regs.a := 0x12 }) [0xF5] (fun t => (top t, t.cyc)) =
      some ((0xCFFE, 0xB0, 0x12), 16) := by decide +kernel

theorem test_pop_af_drops_low_bits :
    after ({ start with sp := 0xC000 }.placeBytes 0xC000 [0x0F, 0x34]) [0xF1] (fun t => (core t, t.sp)) =
      some ((0x34, 0x00, 0x0201, 12), 0xC002) := by decide +kernel

/-- C's bits 7:5 are a draw there, so only sp and what IE shows are looked at. -/
theorem test_pop_wraps_through_ie :
    after ({ start with sp := 0xFFFF, ie := 0x15 }.placeBytes 0 [0x22]) [0xC1] (fun t => t.sp) = some 0x0001 ∧
    ∀ d : Byte, (peek d 0xFFFF { start with ie := 0x15 }).extractLsb' 0 5 = 0b10101 := by
  refine ⟨by decide +kernel, by decide +kernel⟩

/-- Part 1.4: the mirror E000 to FDFF and DE00, which has none. -/
theorem test_wram_mirror :
    after { start with regs.a := 0x5A, regs.h := 0xE1, regs.l := 0x23 } [0x77] (at' 0xC123) = some 0x5A ∧
    after { start with regs.a := 0x11, regs.h := 0xDD, regs.l := 0xFF } [0x77] (at' 0xFDFF) = some 0x11 ∧
    after { start with regs.a := 0x22, regs.h := 0xDE, regs.l := 0x00 } [0x77]
      (fun t => (at' 0xDE00 t, at' 0xFE00 t)) = some (0x22, 0x00) := by decide +kernel

/-! #### 2.2 8-bit arithmetic and logic -/

theorem test_add :
    after { start with regs.a := 0x0F, regs.b := 0x01 } [0x80] core = some (0x10, 0x20, 0x0201, 4) ∧
    after { start with regs.a := 0xF0, regs.b := 0x20 } [0x80] core = some (0x10, 0x10, 0x0201, 4) := by decide +kernel

theorem test_adc :
    after (withF 0x10 { start with regs.a := 0xFF }) [0x88] core = some (0x00, 0xB0, 0x0201, 4) ∧
    after (withF 0x10 { start with regs.a := 0x0F }) [0xCE, 0x00] core = some (0x10, 0x20, 0x0202, 8) := by
  decide +kernel

theorem test_sub :
    after { start with regs.b := 0x01 } [0x90] core = some (0xFF, 0x70, 0x0201, 4) ∧
    after (withF 0x30 { start with regs.a := 0x42 }) [0x97] core = some (0x00, 0xC0, 0x0201, 4) := by decide +kernel

theorem test_sbc :
    after (withF 0x10 start) [0xDE, 0xFF] core = some (0x00, 0xF0, 0x0202, 8) ∧
    after (withF 0x10 { start with regs.a := 0x42 }) [0x9F] core = some (0xFF, 0x70, 0x0201, 4) := by decide +kernel

theorem test_cp : after start [0xFE, 0x01] core = some (0x00, 0x70, 0x0202, 8) := by decide +kernel

theorem test_and_xor_or :
    after { start with regs.a := 0x5A, regs.b := 0x0F } [0xA0] core = some (0x0A, 0x20, 0x0201, 4) ∧
    after { start with regs.a := 0xFF } [0xAF] core = some (0x00, 0x80, 0x0201, 4) ∧
    after (withF 0xF0 start) [0xF6, 0x00] core = some (0x00, 0x80, 0x0202, 8) := by decide +kernel

theorem test_inc_keeps_carry :
    after (withF 0x10 { start with regs.b := 0x0F }) [0x04] (flagged .b) = some (0x30, 0x10, 4) := by decide +kernel

theorem test_dec :
    after { start with regs.c := 0x10 } [0x0D] (flagged .c) = some (0x60, 0x0F, 4) ∧
    after (withF 0x90 start) [0x15] (flagged .d) = some (0x70, 0xFF, 4) := by decide +kernel

theorem test_daa_after_addition :
    after { start with regs.a := 0x3C } [0x27] core = some (0x42, 0x00, 0x0201, 4) ∧
    after { start with regs.a := 0x9A } [0x27] core = some (0x00, 0x90, 0x0201, 4) ∧
    after (withF 0x10 { start with regs.a := 0x20 }) [0x27] core = some (0x80, 0x10, 0x0201, 4) ∧
    after (withF 0x20 { start with regs.a := 0x10 }) [0x27] core = some (0x16, 0x00, 0x0201, 4) := by decide +kernel

theorem test_daa_after_subtraction :
    after (withF 0x60 { start with regs.a := 0x2D }) [0x27] core = some (0x27, 0x40, 0x0201, 4) ∧
    after (withF 0x50 { start with regs.a := 0xF0 }) [0x27] core = some (0x90, 0x50, 0x0201, 4) ∧
    after (withF 0x80 start) [0x27] core = some (0x00, 0x80, 0x0201, 4) := by decide +kernel

theorem test_cpl_scf_ccf :
    after (withF 0x90 start) [0x2F] core = some (0xFF, 0xF0, 0x0201, 4) ∧
    after start [0x37] core = some (0x00, 0x10, 0x0201, 4) ∧
    after (withF 0x70 start) [0x3F] core = some (0x00, 0x00, 0x0201, 4) := by decide +kernel

/-! #### 2.3 16-bit arithmetic -/

theorem test_add_hl :
    after (withF 0x80 { start with regs.h := 0x0F, regs.l := 0xFF, regs.e := 0x01 }) [0x19]
      (fun t => (t.hl, t.flags.toByte, t.cyc)) = some (0x1000, 0xA0, 8) ∧
    after (withF 0x80 { start with regs.h := 0xFF, regs.l := 0xFF, sp := 0x0001 }) [0x39]
      (fun t => (t.hl, t.flags.toByte, t.cyc)) = some (0x0000, 0xB0, 8) := by decide +kernel

theorem test_add_sp :
    after start [0xE8, 0xFF] (fun t => (t.sp, t.flags.toByte, t.cyc)) = some (0xFFFF, 0x00, 16) ∧
    after { start with sp := 0x0001 } [0xE8, 0xFF] (fun t => (t.sp, t.flags.toByte, t.cyc)) =
      some (0x0000, 0x30, 16) := by decide +kernel

theorem test_ld_hl_sp :
    after (withF 0xF0 { start with sp := 0xC080 }) [0xF8, 0x80] (fun t => (t.hl, t.sp, t.flags.toByte, t.cyc)) =
      some (0xC000, 0xC080, 0x10, 12) ∧
    after { start with sp := 0x0001 } [0xF8, 0x0F] (fun t => (t.hl, t.flags.toByte)) = some (0x0010, 0x20) := by
  decide +kernel

theorem test_inc_sp_dec_hl :
    after (withF 0xF0 { start with sp := 0xFFFF }) [0x33] (fun t => (t.sp, t.flags.toByte, t.cyc)) =
      some (0x0000, 0xF0, 8) ∧
    after start [0x2B] (fun t => (t.hl, t.cyc)) = some (0xFFFF, 8) := by decide +kernel

/-! #### 2.4 Rotates, shifts and bits -/

theorem test_accumulator_rotates :
    after (withF 0x80 start) [0x07] core = some (0x00, 0x00, 0x0201, 4) ∧
    after { start with regs.a := 0x80 } [0x17] core = some (0x00, 0x10, 0x0201, 4) ∧
    after (withF 0x10 { start with regs.a := 0x01 }) [0x1F] core = some (0x80, 0x10, 0x0201, 4) := by decide +kernel

theorem test_prefixed_rotates :
    after { start with regs.a := 0x80 } [0xCB, 0x17] core = some (0x00, 0x90, 0x0202, 8) ∧
    after { start with regs.a := 0x80 } [0xCB, 0x2F] core = some (0xC0, 0x00, 0x0202, 8) ∧
    after (withF 0x10 { start with regs.b := 0xA5 }) [0xCB, 0x30] (flagged .b) = some (0x00, 0x5A, 8) := by
  decide +kernel

theorem test_bit_keeps_carry :
    after (withF 0x50 { start with regs.a := 0x7F }) [0xCB, 0x7F] core = some (0x7F, 0xB0, 0x0202, 8) := by
  decide +kernel

theorem test_res_set_at_hl :
    after ({ start with regs.h := 0xC0 }.placeBytes 0xC000 [0x01]) [0xCB, 0x86] (fun t => (at' 0xC000 t, t.cyc)) =
      some (0x00, 16) ∧
    after { start with regs.h := 0xC0 } [0xCB, 0xFE] (fun t => (at' 0xC000 t, t.cyc)) = some (0x80, 16) := by
  decide +kernel

/-! #### 2.5 Control transfer -/

theorem test_jr :
    after start [0x18, 0x80] (fun t => (t.pc, t.cyc)) = some (0x0182, 12) ∧
    after start [0x18, 0x7F] (fun t => (t.pc, t.cyc)) = some (0x0281, 12) ∧
    after start [0x38, 0x10] (fun t => (t.pc, t.cyc)) = some (0x0202, 8) ∧
    after (withF 0x10 start) [0x38, 0x10] (fun t => (t.pc, t.cyc)) = some (0x0212, 12) := by decide +kernel

theorem test_jp :
    after { start with regs.h := 0x12, regs.l := 0x34 } [0xE9] (fun t => (t.pc, t.cyc)) = some (0x1234, 4) ∧
    after start [0xD2, 0x00, 0x40] (fun t => (t.pc, t.cyc)) = some (0x4000, 16) ∧
    after (withF 0x10 start) [0xD2, 0x00, 0x40] (fun t => (t.pc, t.cyc)) = some (0x0203, 12) := by decide +kernel

theorem test_call :
    after stacked [0xC4, 0x00, 0x30] (fun t => (t.pc, top t, t.cyc)) =
      some (0x3000, (0xCFFE, 0x03, 0x02), 24) ∧
    after stacked [0xDC, 0x00, 0x30] (fun t => (t.pc, t.sp, t.mem.length, t.cyc)) = some (0x0203, 0xD000, 2, 12) := by
  decide +kernel

theorem test_ret :
    after ((withF 0x80 { start with sp := 0xCFFE }).placeBytes 0xCFFE [0x03, 0x02]) [0xC8]
      (fun t => (t.pc, t.sp, t.cyc)) = some (0x0203, 0xD000, 20) ∧
    after { start with sp := 0xCFFE } [0xC8] (fun t => (t.pc, t.sp, t.cyc)) = some (0x0201, 0xCFFE, 8) := by
  decide +kernel

theorem test_rst :
    after stacked [0xC7] (fun t => (t.pc, top t, t.cyc)) =
      some (0x0000, (0xCFFE, 0x01, 0x02), 16) ∧
    after stacked [0xEF] (fun t => t.pc) = some 0x0028 := by decide +kernel

theorem test_reti :
    after ({ start with sp := 0xCFFE }.placeBytes 0xCFFE [0x50, 0x01]) [0xD9]
      (fun t => (t.pc, t.sp, t.ime, t.cyc)) = some (0x0150, 0xD000, true, 16) := by decide +kernel

/-! #### 2.6 System instructions, and 3: step-level vectors -/

theorem test_nop_di_ei :
    after start [0x00] core = some (0x00, 0x00, 0x0201, 4) ∧
    after { start with imePending := true } [0xF3] (fun t => (t.ime, t.imePending, t.cyc)) = some (false, false, 4) ∧
    after start [0xFB] (fun t => (t.ime, t.imePending, t.cyc)) = some (false, true, 4) := by decide +kernel

theorem test_halt : after start [0x76] (fun t => (t.halted, t.pc, t.cyc)) = some (true, 0x0201, 4) := by decide +kernel

theorem test_stop_unprimed :
    faulted start [0x10, 0x00] (fun t => t.pc) = some (some (.unmodelledStop 0x0200), 0x0202) := by decide +kernel

theorem test_illegal :
    faulted start [0xD3] (fun t => t.pc) = some (some (.illegalOpcode 0xD3 0x0200), 0x0201) ∧
    faulted start [0xFD] (fun t => t.pc) = some (some (.illegalOpcode 0xFD 0x0200), 0x0201) := by decide +kernel

/-- 3.1, EI delay: EI dispatches nothing; the next step is promoted, runs NOP and dispatches. -/
theorem test_ei_delay :
    after { stacked with ie := 1, iflag := 1 } [0xFB] (fun t => (t.pc, t.imePending, t.iflag)) =
      some (0x0201, true, 1) ∧
    after { stacked with pc := 0x0201, ie := 1, iflag := 1, imePending := true } [0x00]
      (fun t => (flow t, top t)) = some ((0x0040, false, 0, 24), (0xCFFE, 0x02, 0x02)) := by decide +kernel

/-- 3.1, EI then DI: the second step of the row. -/
theorem test_ei_then_di :
    after { stacked with pc := 0x0201, ie := 1, iflag := 1, imePending := true } [0xF3]
      (fun t => (t.pc, t.ime, t.imePending, t.iflag)) = some (0x0202, false, false, 1) := by decide +kernel

/-- 3.1, RETI with a pending interrupt. -/
theorem test_reti_dispatches :
    after ({ start with ie := 4, iflag := 4, sp := 0xCFFE }.placeBytes 0xCFFE [0x00, 0x03]) [0xD9]
      (fun t => (flow t, top t)) = some ((0x0050, false, 0, 36), (0xCFFE, 0x00, 0x03)) := by decide +kernel

/-- 1.8 and 3.1: the priority scan. -/
theorem test_priority :
    after { stacked with ime := true, ie := 5, iflag := 5 } [0x00]
      (fun t => (flow t, top t)) = some ((0x0040, false, 4, 24), (0xCFFE, 0x01, 0x02)) ∧
    after { stacked with ime := true, ie := 0x1F, iflag := 0x18 } [0x00] (fun t => (t.pc, t.iflag)) =
      some (0x0058, 0x10) ∧
    after { stacked with ime := true, iflag := 0x1F } [0x00] (fun t => (t.pc, t.iflag)) = some (0x0201, 0x1F) := by
  decide +kernel

/-- 3.1, the halted rows. -/
theorem test_halted_steps :
    after { stacked with halted := true, ime := true } [] (fun t => (t.pc, t.halted, t.cyc, t.timer.divSub)) =
      some (0x0200, true, 4, 4) ∧
    after { stacked with halted := true, ie := 4, iflag := 4 } [] (fun t => (t.pc, t.halted, t.cyc)) =
      some (0x0200, false, 4) ∧
    after { stacked with halted := true, ime := true, ie := 1, iflag := 1, pc := 0x0201 } []
      (fun t => (flow t, top t, t.halted)) = some ((0x0040, false, 0, 24), (0xCFFE, 0x01, 0x02), false) := by decide +kernel

/-- The start state on the colour console. -/
def colour : State := { start with launch.colorMode := true }

/-- 3.2, primed STOP: the step's devices go at the old speed, the next step's at the new one. -/
theorem test_primed_stop :
    after { colour with speedArmed := true } [0x10, 0x00]
      (fun t => (t.doubleSpeed, t.speedArmed, t.pc, t.cyc, t.timer.divSub)) = some (true, false, 0x0202, 4, 4) ∧
    after { colour with doubleSpeed := true } [0x00] (fun t => (t.cyc, t.timer.divSub)) = some (4, 2) ∧
    after { colour with doubleSpeed := true, speedArmed := true } [0x10, 0x00]
      (fun t => (t.doubleSpeed, t.timer.divSub)) = some (false, 2) := by decide +kernel

/-- 3.3, the undefined I/O rows. -/
theorem test_undefined_io :
    faulted start [0xF0, 0x01] (fun t => (t.pc, t.regs.a, t.timer.divSub)) =
      some (some (.undefinedIo 0xFF01 .read), 0x0202, 0, 0) ∧
    faulted start [0xE0, 0x50] (fun t => t.pc) = some (some (.undefinedIo 0xFF50 .write), 0x0202) ∧
    faulted start [0xE0, 0x4F] (fun t => t.pc) = some (some (.undefinedIo 0xFF4F .write), 0x0202) := by decide +kernel

/-- P5: HALT with ime = 0 and a pending interrupt, with and without the HALT bug. -/
theorem test_halt_bug :
    after { start with ie := 1, iflag := 1 } [0x76] (fun t => (t.halted, t.haltBugLatch, t.pc)) =
      some (false, false, 0x0201) ∧
    after { start with ie := 1, iflag := 1, launch.haltBug := true } [0x76]
      (fun t => (t.halted, t.haltBugLatch, t.pc)) = some (false, true, 0x0201) ∧
    after { start with haltBugLatch := true } [0x3C] (fun t => (t.regs.a, t.pc, t.haltBugLatch)) =
      some (0x01, 0x0200, false) := by decide +kernel

/-! ### Devices -/

/-- 1.5: the timer rows; of the rows of 1024 steps the last step. -/
theorem test_timer :
    (let u := Timer.step^[100] { State.reset.timer with tac := 5 }
     (u.tima, u.timaSub, u.div, u.divSub) = (0x06, 4, 0x00, 100)) ∧
    (let u := Timer.step { State.reset.timer with tac := 4, timaSub := 1023, div := 3, divSub := 255 }
     (u.tima, u.timaSub, u.div, u.divSub) = (0x01, 0, 0x04, 0)) ∧
    (let u := Timer.step { State.reset.timer with div := 3, divSub := 255 }
     (u.tima, u.timaSub, u.div) = (0x00, 0, 0x04)) ∧
    (let t := timerStep { start with timer.tac := 5, timer.tima := 0xFF, timer.tma := 0xAB, timer.timaSub := 15 }
     (t.timer.tima, t.timer.timaSub, t.iflag) = (0xAB, 0, 0b00100)) ∧
    (let t := poke 0xFF04 0x55 { start with timer.tac := 7, timer.div := 0x3C, timer.divSub := 9, timer.timaSub := 8 }
     (t.timer.div, t.timer.divSub, t.timer.tima, t.timer.timaSub) = (0x00, 0, 0x00, 8)) := by decide +kernel

/-- 1.10: OAM DMA from page 10, the first step of LDH (46),A. -/
theorem test_oam_dma_starts :
    after ({ start with regs.a := 0x10 }.placeBytes 0x1000 [0xB0, 0xB1]) [0xE0, 0x46]
      (fun t => (t.dma.dmaReg, t.dma.oam, t.oamByte 0, t.oamByte 1, ramBusy t)) =
      some (0x10, some { page := 0x10, index := 12 }, 0xB0, 0xB1, true) ∧
    faulted { start with regs.a := 0xE0 } [0xE0, 0x46] (fun t => t.dma.oam) =
      some (some (.dmaSourceUnmodelled 0xE0), none) := by decide +kernel

/-- 1.10: the 160th DMA step ends the transfer. -/
theorem test_oam_dma_ends :
    after ({ start with dma.oam := some { page := 0x10, index := 156 } }.placeBytes 0x109F [0x9F]) [0x00]
      (fun t => (t.dma.oam, t.oamByte 159, ramBusy t)) = some (none, 0x9F, false) := by decide +kernel

/-- An MBC1 cartridge of 128 banks with these registers. -/
def mbc1 (low5 : BitVec 5) (high2 : BitVec 2) : State :=
  { start with cart := { mapper := .mbc1 low5 high2 false false, romBanks := 128, ramBytes := 0 } }

/-- 1.3: MBC1 bank 0 remapping. -/
theorem test_mbc1_banks :
    (poke 0x2000 0x00 (mbc1 9 0)).cart.romBank = 0x01 ∧ (poke 0x4000 0x01 (mbc1 0 0)).cart.romBank = 0x21 ∧
    (poke 0x4000 0x02 (mbc1 0 0)).cart.romBank = 0x41 ∧ (poke 0x4000 0x03 (mbc1 0 0)).cart.romBank = 0x61 ∧
    (poke 0x4000 0x01 (mbc1 5 0)).cart.romBank = 0x25 ∧
    locate (mbc1 5 1) 0x4000 = .rom (Key.rom 0x94000) := by decide +kernel

/-- A launch with a header's three bytes. -/
def withHeader (kind size ram : Byte) : LaunchInput :=
  { emptyLaunch with image := [(0x147, kind), (0x148, size), (0x149, ram)] }

/-- 1.6: the header rows. -/
theorem test_header :
    (withHeader 0x03 0x02 0x03).header.cart =
      .ok { mapper := .mbc1 0 0 false false, romBanks := 8, ramBytes := 0x8000 } ∧
    cartType 0x03 = some { controller := .mbc1, timer := false, ram := true, battery := true, rumble := false } ∧
    (withHeader 0x00 0x00 0x00).header.cart = .ok { mapper := .romOnly, romBanks := 2, ramBytes := 0 } ∧
    (withHeader 0x00 0x00 0x04).header.cart = .error 0x04 ∧ (withHeader 0x04 0x00 0x00).header.cart = .error 0x04 :=
  ⟨rfl, rfl, rfl, rfl, rfl⟩

/-- 20_memory.md R106: the title's first and last byte, and the colour-support flag. -/
theorem test_header_fields :
    (let h := { emptyLaunch with image := [(0x134, 0x41), (0x143, 0x5A), (0x144, 0x01), (0x146, 0x80)] }.header
     (h.title.length, h.title.head?, h.title.getLast?, h.colorFlag) = (16, some 0x41, some 0x5A, 0x80)) := by
  decide +kernel

/-- 1.1: twelve sprites on line 0, and the X = 0 row. -/
theorem test_oam_search :
    ((oamSearch (fun k => if k < 48 then (if k % 4 = 0 then 0x10 else 0x08) else 0) 0 0).map Sprite.index) =
      [0, 1, 2, 3, 4, 5, 6, 7, 8, 9] ∧
    ((oamSearch (fun k => if k = 12 ∨ k = 20 then 0x10 else if k = 13 ∨ k = 21 then 0x20 else 0) 0 0).map
      Sprite.index) = [3, 5] ∧
    oamSearch (fun k => if k = 0 then 0x10 else 0) 0 0 = [] := by decide +kernel

/-- 1.2 and 1.7: the tile-byte fetch and the frequency round trip. -/
theorem test_fetch_unit_and_frequency :
    (TileFetch.step^[5] TileFetch.start).ready = false ∧ (TileFetch.step^[6] TileFetch.start).ready = true ∧
    freqDenominator 0x6D6 = 298 ∧ freqRegister 298 = 0x6D6 ∧ freqBytes 0x6D6 = (0xD6, 6) := by decide +kernel

/-- 3.4: the PPU rows that do not depend on the draws of the line: 79 and 80 dots, a line's end, VBlank, a frame's end. -/
theorem test_ppu_rows :
    (let t := ppuStep { start with ppu.dot := 78 }
     (t.ppu.dot, t.ppu.mode) = (79, .oamSearch)) ∧
    (ppuStep { start with ppu.dot := 79 }).ppu.dot = 80 ∧
    (let t := ppuStep { start with ppu.dot := 455, ppu.mode := .hblank }
     (t.ppu.ly, t.ppu.dot, t.ppu.mode) = (1, 0, .oamSearch)) ∧
    (let t := ppuStep { start with ppu.ly := 143, ppu.dot := 455, ppu.mode := .hblank }
     (t.ppu.ly, t.ppu.mode, t.iflag) = (144, .vblank, 0b00001)) ∧
    (let t := ppuStep { start with ppu.ly := 143, ppu.dot := 455, ppu.mode := .hblank, ppu.statEnables := 0b0010 }
     t.iflag = 0b00011) ∧
    (let t := ppuStep { start with ppu.ly := 153, ppu.dot := 455, ppu.mode := .vblank }
     (t.ppu.ly, t.ppu.mode, t.sched.frames, t.sched.announced) =
       (0, .oamSearch, 1, some { width := 160, height := 144 })) ∧
    (poke 0xFF40 0 start).sched.announced = some { width := 160, height := 144 } := by decide +kernel

/-- A line that ends in the next PPU step, with the LYC interrupt on and LYC equal to LY. -/
def lyEndsAtLyc : State :=
  { start with
    launch := { start.launch with statLycInterrupt := true }
    ppu := { start.ppu with ly := 5, dot := 455, mode := .hblank, lyc := 5, statEnables := 0b1000 } }

/-- 60_exceptions.md R503, R506: LYC moved from LY to LY + 1 just before LY advances, and LYC written with LY, each change
the coincidence from 0 to 1 once. -/
theorem test_lyc_write_then_ly :
    (ppuStep lyEndsAtLyc).iflag = 0 ∧ (ppuStep (poke 0xFF45 6 lyEndsAtLyc)).iflag = 0b00010 ∧
    (let t := ppuStep (poke 0xFF45 5 { lyEndsAtLyc with ppu.lyc := 9, ppu.dot := 300 })
     (t.iflag, (ppuStep { t with iflag := 0 }).iflag) = (0b00010, 0)) := by decide +kernel

/-- 20_memory.md R116: the ends of the PPU's two restrictions, and of the core's under OAM DMA. -/
theorem test_restrictions :
    (let s := { start with launch.hwAccessRestrictions := true, ppu.mode := .pixelTransfer }
     [0x7FFF, 0x8000, 0x9FFF, 0xA000, 0xFDFF, 0xFE00, 0xFE9F, 0xFEA0].map (ppuHolds · s) =
       [false, true, true, false, false, true, true, false]) ∧
    (let s := { start with launch.hwAccessRestrictions := true, ppu.mode := .oamSearch }
     (ppuHolds 0x8000 s, ppuHolds 0xFE00 s, ppuHolds 0xFE00 start) = (false, true, false)) ∧
    (let s := { start with launch.hwAccessRestrictions := true, dma.oam := some { page := 0xC0, index := 0 } }
     [0xC000, 0xFF7F, 0xFF80, 0xFFFE, 0xFFFF].map (dmaHolds · s) = [true, true, false, false, true]) := by
  decide +kernel

/-- 1.9: the boot state. -/
theorem test_boot_state :
    (State.reset.regs, State.reset.flags.toByte, State.reset.pc, State.reset.sp) =
      ({ a := 0x01, b := 0x00, c := 0x13, d := 0x00, e := 0xD8, h := 0x01, l := 0x4D }, 0xB0, 0x0100, 0xFFFE) := by
  decide +kernel

/-- 60_exceptions.md R551, R552: a button of the launch's first sample is pressed in the first step, which requests
interrupt 4. -/
theorem test_launched_press :
    (match step (launchState { emptyLaunch with joypadInput := [{ noButtons with start := true }] }) with
     | .next t => some (t.pad.buttons.start, t.pad.inputs, t.iflag)
     | _ => none) = some (true, [], 0b10000) := by decide +kernel

/-! ### Witnesses -/

/-- A launch with a colour cartridge. -/
def colourLaunch : LaunchInput := { emptyLaunch with image := [(0x146, 0x80)], colorValues := [0x80, 0xC0] }

/-- `start` with HL at an address. -/
def hlAt (a : Word) : State := start.setHL a

/-- `start` with `mapper` and `ram` bytes of external RAM. -/
def withCart (m : Mapper) (ram : Nat) : State :=
  { start with cart := { mapper := m, romBanks := 4, ramBytes := ram } }

/-- `start` with a VRAM transfer of 32 bytes from C000 to 8000. -/
def withVram (kind : VramKind) : State :=
  { colour with dma.vram := some { kind := kind, src := 0xC000, dst := 0x8000, remaining := 32, lineCount := 0 } }

/-- The result is a next state. -/
def isNext (r : Result) : Bool :=
  match r with
  | .next _ => true
  | _ => false

theorem witness_ResetState :
    State.reset = launchState emptyLaunch ∧ State.reset.launch.colorMode = false ∧
    (launchState colourLaunch).launch.colorMode = true ∧ 0x1FFFF < 0x20000 ∧ 0x1FFF < 0x2000 ∧
    (0xC000 ≤ 0xDFFF ∧ 0xDFFF < 0xE000) ∧ (0xFE00 ≤ 0xFE9F ∧ 0xFE9F < 0xFEA0) ∧ (0xFF30 ≤ 0xFF3F ∧ 0xFF3F < 0xFF40) ∧
    (0xFF80 ≤ 0xFFFE ∧ 0xFFFE < 0xFFFF) := ⟨rfl, rfl, by decide +kernel, by decide⟩

theorem witness_LoaderChecksHeader :
    ((withHeader 0x04 0 0).imageByte 0x147).toNat ∉
      [0x00, 0x08, 0x09] ++ [0x01, 0x02, 0x03] ++ [0x05, 0x06] ++ [0x0F, 0x10, 0x11, 0x12, 0x13] ++
        [0x19, 0x1A, 0x1B, 0x1C, 0x1D, 0x1E] ∧
    ((withHeader 0x03 2 4).imageByte 0x147).toNat = 0x03 ∧ 3 < ((withHeader 0x03 2 4).imageByte 0x149).toNat ∧
    ((withHeader 0x1E 2 3).imageByte 0x147).toNat = 0x1E ∧ ((withHeader 0x1E 2 3).imageByte 0x149).toNat ≤ 3 ∧
    (launchState (withHeader 0x04 0 0)).fault = some (.cartridgeConfig 0x04) ∧
    colourLaunch.imageByte 0x146 ∈ colourLaunch.colorValues ∧ emptyLaunch.imageByte 0x146 ∉ emptyLaunch.colorValues := by
  decide +kernel

theorem witness_DecodeReadsEncodedInstruction : (Instr.jpA16 0xFFFF).wellFormed = true := by decide

theorem witness_DecodeIsTotal :
    ([0xFF] : List Byte).length + 1 < instrLength 0xC3 ∧ instrLength 0xC3 ≤ ([0xFF, 0xFF] : List Byte).length + 1 ∧
    ([] : List Byte).length + 1 < instrLength 0xCB ∧ instrLength 0x76 ≤ ([] : List Byte).length + 1 := by decide

theorem witness_IllegalOpcodesFault :
    (0xD3#8).toNat ∈ [0xD3, 0xDB, 0xDD, 0xE3, 0xE4, 0xEB, 0xEC, 0xED, 0xF4, 0xFC, 0xFD] ∧
    (0xFD#8).toNat ∈ [0xD3, 0xDB, 0xDD, 0xE3, 0xE4, 0xEB, 0xEC, 0xED, 0xF4, 0xFC, 0xFD] := by decide

theorem witness_OpcodesFollowTheFields : Reg8.ofField 0 = some .b ∧ Reg8.ofField 7 = some .a := by decide

/-- A three-byte jump across the ROM banks, and a NOP in the last byte of HRAM. -/
theorem witness_StepRunsDecodedInstruction :
    (let s := { start with pc := 0x3FFE }.placeBytes 0x3FFE [0xC3, 0xFF, 0xFF]
     let i := Instr.jpA16 0xFFFF
     s.fault = none ∧ s.halted = false ∧ s.haltBugLatch = false ∧ i.wellFormed = true ∧
     ∀ k, k < (encode i).length → readFault (s.pc + BitVec.ofNat 16 k) (beginStep s) = none ∧
       readByte (s.pc + BitVec.ofNat 16 k) { beginStep s with draws := s.draws + k } = (encode i).getD k 0) ∧
    (let s := { start with pc := 0xFFFE }
     readFault s.pc (beginStep s) = none ∧ readByte s.pc (beginStep s) = (encode Instr.nop).getD 0 0) := by
  decide +kernel

theorem witness_FetchReadsByteAtPc :
    readFault 0xFF01 { start with pc := 0xFF01 } = some (.undefinedIo 0xFF01 .read) ∧
    readFault 0x0200 start = none ∧ start.haltBugLatch = false ∧
    { start with haltBugLatch := true }.haltBugLatch = true := by decide +kernel

theorem witness_StepsWithoutInstruction :
    { start with fault := some (.unmodelledStop 0) }.fault = some (.unmodelledStop 0) ∧
    { start with halted := true }.fault = none ∧ { start with halted := true }.halted = true := by decide

theorem witness_FaultsAreRecorded :
    isNext (step (start.placeBytes 0x0200 [0x00])) = true ∧ isNext (step (start.placeBytes 0x0200 [0xD3])) = false := by
  decide +kernel

theorem witness_EnableIsDelayedDisableIsNot : start.imePending = false := by decide

/-- Bits 0 and 4; pc pushed into work RAM, and onto the undefined address FF01. -/
theorem witness_DispatchTakesLowestInterrupt :
    (let s := { stacked with ime := true, ie := 0b00001, iflag := 0b11111 }
     s.imePending = false ∧ s.ie.getLsbD 0 = true ∧ s.iflag.getLsbD 0 = true ∧
     isNext (push16 s.pc { s with iflag := s.iflag &&& ~~~(1#5 <<< 0), ime := false, halted := false }) = true) ∧
    (let s := { start with ime := true, ie := 0b10000, iflag := 0b11111, sp := 0xFF02 }
     s.imePending = false ∧ s.ie.getLsbD 4 = true ∧ s.iflag.getLsbD 4 = true ∧
     (∀ k, k < 4 → (s.ie.getLsbD k && s.iflag.getLsbD k) = false) ∧
     isNext (push16 s.pc { s with iflag := s.iflag &&& ~~~(1#5 <<< 4), ime := false, halted := false }) = false) := by decide +kernel

theorem witness_CheckWithoutDispatch :
    start.ie &&& start.iflag = 0#5 ∧ { start with ie := 1, iflag := 1 }.ime = false ∧
    { start with ie := 1, iflag := 1, ime := true, imePending := true }.imePending = true := by decide

/-- The first undefined address, the last, and readable ones, for each of the addressing forms. -/
theorem witness_MemoryLoads :
    readFault 0xFF01 (hlAt 0xFF01) = some (.undefinedIo 0xFF01 .read) ∧
    readFault 0xFF7F { start with regs.b := 0xFF, regs.c := 0x7F } = some (.undefinedIo 0xFF7F .read) ∧
    readFault (0xFF00#16 + (0x7F#8).setWidth 16) { start with regs.c := 0x7F } = some (.undefinedIo 0xFF7F .read) ∧
    readFault 0xFFFF (hlAt 0xFFFF) = none ∧ readFault 0x0000 start = none ∧
    readFault (0xFF00#16 + (0x80#8).setWidth 16) start = none := by decide +kernel

theorem witness_MemoryStores :
    writeFault 0xFF01 0x12 (hlAt 0xFF01) = some (.undefinedIo 0xFF01 .write) ∧
    writeFault (0xFF00#16 + (0x46#8).setWidth 16) 0xE0 { start with regs.a := 0xE0, regs.c := 0x46 } =
      some (.dmaSourceUnmodelled 0xE0) ∧
    writeFault 0xFF46 0xDF start = none ∧ writeFault 0xFFFF 0xFF (hlAt 0xFFFF) = none ∧
    writeFault 0x0000 0x00 start = none := by decide +kernel

theorem witness_PostModifiedAccesses :
    readFault (hlAt 0xFF01).hl (hlAt 0xFF01) = some (.undefinedIo 0xFF01 .read) ∧
    readFault (hlAt 0xFFFF).hl (hlAt 0xFFFF) = none ∧ readFault (hlAt 0x0000).hl (hlAt 0x0000) = none ∧
    writeFault (hlAt 0xFF01).hl 0x00 (hlAt 0xFF01) = some (.undefinedIo 0xFF01 .write) ∧
    writeFault (hlAt 0xFFFF).hl 0x00 (hlAt 0xFFFF) = none := by decide +kernel

theorem witness_WordLoads :
    writeFault 0xFF01 0x34 { start with sp := 0x1234 } = some (.undefinedIo 0xFF01 .write) ∧
    (let s := { start with sp := 0x1234 }
     writeFault 0xFF00 0x34 s = none ∧
       writeFault (0xFF00 + 1) 0x12 (writeByte 0xFF00 0x34 s) = some (.undefinedIo 0xFF01 .write) ∧
       writeFault 0xFFFF 0x34 s = none ∧ writeFault (0xFFFF + 1) 0x12 (writeByte 0xFFFF 0x34 s) = none) := by
  decide +kernel

/-- PUSH with the first write, the second, and neither refused; POP likewise. -/
theorem witness_PushAndPop :
    writeFault 0xFF7F 0x12 { start with sp := 0xFF7F } = some (.undefinedIo 0xFF7F .write) ∧
    writeFault 0xFF80 0x12 { start with sp := 0xFF80 } = none ∧
    writeFault 0xFF7F 0x34 { writeByte 0xFF80 0x12 { start with sp := 0xFF80 } with sp := 0xFF7F } =
      some (.undefinedIo 0xFF7F .write) ∧
    writeFault 0xFFFF 0x12 { start with sp := 0xFFFF } = none ∧
    writeFault 0xFFFE 0x34 { writeByte 0xFFFF 0x12 { start with sp := 0xFFFF } with sp := 0xFFFE } = none ∧
    readFault 0xFF01 { start with sp := 0xFF01 } = some (.undefinedIo 0xFF01 .read) ∧
    readFault 0xFF00 { start with sp := 0xFF00 } = none ∧
    readFault (0xFF00 + 1) { start with sp := 0xFF01, draws := 1 } = some (.undefinedIo 0xFF01 .read) ∧
    readFault (0xFFFF + 1) { start with sp := 0x0000, draws := 1 } = none := by decide +kernel

/-- The (HL) form of the ALU statements: AddAndAdc, SubSbcAndCp and AndXorOr. -/
theorem witness_AddAndAdc :
    readFault (hlAt 0xFF01).hl (hlAt 0xFF01) = some (.undefinedIo 0xFF01 .read) ∧
    readFault (hlAt 0xC000).hl (hlAt 0xC000) = none := by decide +kernel

theorem witness_SubSbcAndCp : readFault (hlAt 0xFF7F).hl (hlAt 0xFF7F) = some (.undefinedIo 0xFF7F .read) ∧
    readFault (hlAt 0xFF80).hl (hlAt 0xFF80) = none := by decide +kernel

theorem witness_AndXorOr : readFault (hlAt 0xFF4C).hl (hlAt 0xFF4C) = some (.undefinedIo 0xFF4C .read) ∧
    readFault (hlAt 0xFF4B).hl (hlAt 0xFF4B) = none := by decide +kernel

/-- INC (HL) at FF46 with DF: the read succeeds, the write of E0 faults. -/
theorem witness_IncrementAndDecrement :
    (let s := { hlAt 0xFF46 with dma.dmaReg := 0xDF }
     readFault s.hl s = none ∧ readByte s.hl s = 0xDF ∧ writeFault s.hl 0xE0 s = some (.dmaSourceUnmodelled 0xE0)) ∧
    readFault (hlAt 0xFF01).hl (hlAt 0xFF01) = some (.undefinedIo 0xFF01 .read) ∧
    readFault (hlAt 0xC000).hl (hlAt 0xC000) = none ∧ writeFault (hlAt 0xC000).hl 0x01 (hlAt 0xC000) = none := by
  decide +kernel

theorem witness_MemoryRotates :
    (let s := { hlAt 0xFF46 with dma.dmaReg := 0x70 }
     readFault s.hl s = none ∧ readByte s.hl s = 0x70 ∧
       writeFault s.hl (rotResult .rlc 0x70 false) s = some (.dmaSourceUnmodelled 0xE0)) ∧
    readFault (hlAt 0xFF01).hl (hlAt 0xFF01) = some (.undefinedIo 0xFF01 .read) ∧
    writeFault (hlAt 0xC000).hl (rotResult .rlc 0x70 false) (hlAt 0xC000) = none := by decide +kernel

theorem witness_MemoryBits :
    (let s := { hlAt 0xFF46 with dma.dmaReg := 0x60 }
     readFault s.hl s = none ∧ readByte s.hl s = 0x60 ∧ writeFault s.hl 0xE0 s = some (.dmaSourceUnmodelled 0xE0)) ∧
    readFault (hlAt 0xFF01).hl (hlAt 0xFF01) = some (.undefinedIo 0xFF01 .read) ∧
    readFault (hlAt 0xDFFF).hl (hlAt 0xDFFF) = none ∧ writeFault (hlAt 0xDFFF).hl 0x80 (hlAt 0xDFFF) = none := by
  decide +kernel

/-- Each condition both ways; the writes of the taken forms are as in `witness_PushAndPop`. -/
theorem witness_Calls :
    start.flags.holds .nz = true ∧ start.flags.holds .z = false ∧ start.flags.holds .nc = true ∧
    start.flags.holds .c = false ∧ (withF 0xF0 start).flags.holds .nz = false ∧
    (withF 0xF0 start).flags.holds .z = true ∧ (withF 0xF0 start).flags.holds .nc = false ∧
    (withF 0xF0 start).flags.holds .c = true ∧
    writeFault (stacked.sp - 1) 0x02 { stacked with sp := stacked.sp - 1 } = none := by decide +kernel

theorem witness_Returns :
    (let s := withF 0x80 { start with sp := 0xCFFE }
     s.flags.holds .z = true ∧ s.flags.holds .nz = false ∧ readFault s.sp s = none ∧
       readFault (s.sp + 1) { s with sp := s.sp + 1, draws := s.draws + 1 } = none) := by decide +kernel

theorem witness_SystemInstructions :
    (let s := { start with launch.haltBug := true, ie := 1, iflag := 1 }
     s.launch.haltBug = true ∧ s.ime = false ∧ s.ie &&& s.iflag ≠ 0#5) ∧
    start.launch.haltBug = false ∧
    (let s := { colour with speedArmed := true }
     s.launch.colorMode = true ∧ s.speedArmed = true) ∧
    start.speedArmed = false ∧ (0xFF#8).toNat % 8 ≠ 6 ∧ (0x00#8).toNat % 8 ≠ 6 := by decide

theorem witness_CyclesFollowTheTable : isNext (exec .nop start) = true ∧ isNext (exec .rlcB start) = true := by
  decide +kernel

/-- The first and the last address of each region. -/
theorem witness_ReadsFollowTheMap :
    ([(0x0000, 0x3FFF, 0x4000), (0x4000, 0x7FFF, 0x8000), (0x8000, 0x9FFF, 0xA000), (0xC000, 0xDFFF, 0xE000),
      (0xE000, 0xFDFF, 0xFE00), (0xFE00, 0xFE9F, 0xFEA0), (0xFEA0, 0xFEFF, 0xFF00), (0xFF80, 0xFFFE, 0xFFFF)] :
      List (Word × Word × Nat)).all (fun r => decide (r.1.toNat ≤ r.2.1.toNat ∧ r.2.1.toNat < r.2.2)) = true ∧
    (0xFFFF#16).toNat = 0xFFFF := by decide

theorem witness_WritesReadBack :
    Memory.wf start.mem = true ∧
    ([0x0000, 0x7FFF, 0x8000, 0x9FFF, 0xC000, 0xDDFF, 0xE000, 0xFDFF, 0xFE00, 0xFE9F, 0xFEA0, 0xFEFF, 0xFF80, 0xFFFE,
      0xFFFF] : List Word).all (fun a => !restricted a start) = true := by decide +kernel

theorem witness_BankControllerWrites :
    restricted 0x0000 start = false ∧ restricted 0x7FFF start = false ∧ start.cart.mapper = .romOnly ∧
    (withCart (.mbc1 31 3 true true) 0).cart.mapper = .mbc1 31 3 true true ∧
    (withCart (.mbc2 15 false) 0).cart.mapper = .mbc2 15 false ∧
    (withCart (.mbc3 31 3 true ⟨0, 0, 0, 0, 0⟩) 0).cart.mapper = .mbc3 31 3 true ⟨0, 0, 0, 0, 0⟩ ∧
    (withCart (.mbc5 511 15 false) 0).cart.mapper = .mbc5 511 15 false := by decide +kernel

theorem witness_ExternalRamWindow :
    Memory.wf start.mem = true ∧ restricted 0xA000 start = false ∧ restricted 0xBFFF start = false ∧
    start.cart.mapper = .romOnly ∧ start.cart.ramBytes = 0 ∧
    (withCart (.mbc1 1 3 true true) 0x8000).cart.mapper = .mbc1 1 3 true true ∧
    (withCart (.mbc1 1 3 true true) 0x800).cart.ramBytes < 0x2000 ∧
    (withCart (.mbc1 1 3 true true) 0x8000).cart.ramBytes = 3 * 0x2000 + (0xBFFF - 0xA000) + 1 ∧
    (withCart (.mbc2 1 true) 0).cart.mapper = .mbc2 1 true ∧
    (withCart (.mbc3 1 0x08 true ⟨0, 0, 0, 0, 0⟩) 0).cart.mapper = .mbc3 1 0x08 true ⟨0, 0, 0, 0, 0⟩ ∧
    (withCart (.mbc5 1 4 true) 0x8000).cart.ramBytes ≤ 4 * 0x2000 := by decide +kernel

theorem witness_UndefinedIoFaults :
    restricted 0xFF4C start = false ∧ restricted 0xFF46 start = false ∧ locate start 0xFF4B = .io .wx ∧
    locate start 0xFF4C = .undefined ∧ locate start 0xFF4D = .undefined ∧ locate colour 0xFF4D = .io .key1 ∧
    locate colour 0xFF6B = .io .ocpd ∧ locate colour 0xFF6C = .undefined := by decide +kernel

theorem witness_CoreRegistersReadBack : colour.launch.colorMode = true := by decide

theorem witness_PpuRegistersReadBack : colour.launch.colorMode = true ∧ Memory.wf colour.mem = true := by decide

/-- `start` under the access restrictions, in a mode, perhaps with an OAM transfer. -/
def limited (mode : PpuMode) (oam : Option OamXfer) : State :=
  { start with launch.hwAccessRestrictions := true, ppu.mode := mode, dma.oam := oam }

/-- The three blocked situations at the first and last address of each, and the addresses next to them. -/
theorem witness_RestrictedAccesses :
    (let s := limited .hblank (some { page := 0, index := 159 })
     s.launch.hwAccessRestrictions = true ∧ s.dma.oam ≠ none ∧
       ([0x0000, 0xFF01, 0xFF46, 0xFF7F, 0xFFFF] : List Word).all (fun a => restricted a s) = true ∧
       ([0xFF80, 0xFFFE] : List Word).all (fun a => !restricted a s) = true) ∧
    ([.oamSearch, .pixelTransfer] : List PpuMode).all (fun m =>
      restricted 0xFE00 (limited m none) && restricted 0xFE9F (limited m none) && !restricted 0xFDFF (limited m none) &&
        !restricted 0xFEA0 (limited m none)) = true ∧
    (let s := limited .pixelTransfer none
     restricted 0x8000 s = true ∧ restricted 0x9FFF s = true ∧ restricted 0x7FFF s = false ∧ restricted 0xA000 s = false) ∧
    restricted 0x8000 (limited .oamSearch none) = false ∧ restricted 0xFF46 (limited .oamSearch none) = false ∧
    (0xDF#8).toNat < 0xE0 ∧ start.launch.hwAccessRestrictions = false ∧ locate start 0xFFFF ≠ .undefined ∧
    locate start 0xFFFF ≠ .io .dma := by decide +kernel

theorem witness_TimerRate :
    State.reset.timer.divSub = 0#8 ∧ State.reset.timer.tac.getLsbD 2 = false ∧
    (let t := { State.reset.timer with tac := 7 }
     t.tac.getLsbD 2 = true ∧ t.timaSub = 0#10 ∧ t.tma = 0#8) := by decide

theorem witness_TimerOverflow :
    (let s := { start with timer.tac := 4, timer.tima := 0xFF, timer.timaSub := 1023 }
     4 ≤ s.timer.tac.toNat ∧ [1024, 16, 64, 256].getD (s.timer.tac.toNat % 4) 0 ≤ s.timer.timaSub.toNat + 1 ∧
       s.timer.tima = 0xFF#8) := by decide

theorem witness_OamDmaCopies160 :
    (let s := { start with dma.oam := some { page := 0xDF, index := 0 } }
     Memory.wf s.mem = true ∧ (0xDF#8).toNat < 0xE0 ∧ s.dma.oam = some { page := 0xDF, index := 0 } ∧
       s.dma.vram = none) ∧
    (let s := { start with launch.hwAccessRestrictions := true, ppu.mode := .pixelTransfer }
     ppuHolds 0x8000 s = true ∧ ppuHolds 0xC000 s = false) := by decide

theorem witness_VramDmaRegisters :
    colour.launch.colorMode = true ∧ colour.dma.vram = none ∧
    (withVram .hblank).dma.vram =
      some { kind := .hblank, src := 0xC000, dst := 0x8000, remaining := 32, lineCount := 0 } ∧
    (32#16).toNat % 16 = 0 ∧ (0x7F#8).toNat < 0x80 ∧ 0x80 ≤ (0x80#8).toNat := by decide

/-- HDMA5 within a line, 60_exceptions.md R496: 17 bytes and 1 byte left. -/
theorem test_hdma5_within_line :
    peek 0 0xFF55 { colour with dma.vram := some ⟨.hblank, 0xC000, 0x8000, 17, 15⟩ } = 0x00 ∧
    peek 0 0xFF55 { colour with dma.vram := some ⟨.hblank, 0xC000, 0x8000, 1, 15⟩ } = 0x7F := by decide +kernel

theorem witness_GeneralVramDma :
    (let s := withVram .general
     Memory.wf s.mem = true ∧ s.dma.oam = none ∧
       s.dma.vram = some { kind := .general, src := 0xC000, dst := 0x8000, remaining := 32, lineCount := 0 } ∧
       ∀ i, i < 32 → locate s (0xC000 + BitVec.ofNat 16 i) ≠ .undefined ∧
         ¬ (0x8000 ≤ (0xC000 + BitVec.ofNat 16 i).toNat ∧ (0xC000 + BitVec.ofNat 16 i).toNat < 0xA000) ∧
         0xC000 + BitVec.ofNat 16 i ≠ 0xFF55#16) := by decide +kernel

/-- The cases of a VRAM DMA step: a byte to copy, an undefined source, a destination past 9FFF, HBlank and not. -/
theorem witness_VramDmaStep :
    locate (withVram .general) 0xC000 ≠ .undefined ∧ locate (withVram .general) 0xFF01 = .undefined ∧
    0x9FFF < (0xA000#16).toNat ∧
    (let s := { withVram .hblank with ppu.mode := .hblank }
     s.ppu.mode = .hblank ∧ s.ppu.lcdOn = true ∧ locate s 0xC000 ≠ .undefined) ∧
    (withVram .hblank).ppu.mode ≠ .hblank := by decide +kernel

theorem witness_PpuPosition : start.ppu.sound ∧ start.ppu.lcdOn = true :=
  ⟨⟨by decide, by decide, by decide, by decide, by decide⟩, by decide⟩

theorem witness_PpuInterrupts :
    (let s := { start with ppu.ly := 143, ppu.dot := 455, ppu.mode := .hblank }
     s.ppu.sound ∧ s.ppu.lcdOn = true) ∧ { start with ppu.lcdc := 0x7F }.ppu.lcdOn = false ∧
    (poke 0xFF45 0 { start with ppu.lyc := 1 }).ppu.lycRose = true :=
  ⟨⟨⟨by decide, by decide, by decide, by decide, by decide⟩, by decide⟩, by decide, by decide⟩

theorem witness_LcdSwitch :
    (0x7F#8).toNat < 0x80 ∧ 0x80 ≤ (0x80#8).toNat ∧ 0x80 ≤ start.ppu.lcdc.toNat ∧
    { start with ppu.lcdc := 0x7F }.ppu.lcdc.toNat < 0x80 := by decide

theorem witness_OamSearchAndFetchUnit :
    (let oam := fun k => if k = 156 then 0x10#8 else if k = 157 then 0xA8#8 else 0#8
     (oam (4 * 39)).toNat ≤ 0 + 16 ∧ 0 + 16 < (oam (4 * 39)).toNat + 8 ∧ 1 ≤ (oam (4 * 39 + 1)).toNat ∧
       (oam (4 * 39 + 1)).toNat ≤ 168) := by decide

theorem witness_ApuRegisters :
    0xFF10 ≤ (0xFF10#16).toNat ∧ (0xFF3F#16).toNat ≤ 0xFF3F ∧ 0xFF30 ≤ (0xFF30#16).toNat ∧
    (0xFF2F#16).toNat < 0xFF30 ∧ Memory.wf start.mem = true ∧
    { start.apu with nr52 := 0x7F }.nr52.getLsbD 7 = false ∧
    (let u := { start.apu with nr52 := 0xFE, nr51 := 0xFF }
     u.nr52.getLsbD 7 = true ∧ u.nr52.getLsbD 0 = false ∧ u.nr52.getLsbD 3 = true) ∧
    (let u := { start.apu with nr52 := 0xFF, nr51 := 0x77 }
     u.nr51.getLsbD 3 = false ∧ u.nr51.getLsbD 7 = false ∧ u.nr51.getLsbD 4 = true) := by decide

theorem witness_JoypadLinesAndInterrupt :
    (let s := { start with pad.buttons := { noButtons with start := true } }
     s.pad.prevLines.getLsbD 3 = true ∧ s.pad.lines.getLsbD 3 = false ∧ s.pad.inputs = []) ∧
    { start with pad.inputs := [noButtons] }.pad.inputs = noButtons :: [] := by decide

theorem witness_DevicePhaseStepsEachDevice :
    isNext (devicePhase false { start with cyc := 4 }) = true ∧ isNext (devicePhase true { colour with cyc := 4 }) = true ∧
    (let s := { colour with cyc := 4, dma.vram := some ⟨.general, 0xFF01, 0x8000, 16, 0⟩ }
     isNext (devicePhase false s) = false) ∧
    (let s := { start with cyc := 4, dma.oam := some { page := 0xC0, index := 159 } }
     isNext (devicePhase false s) = true ∧ s.dma.oam = some { page := 0xC0, index := 159 }) ∧ start.dma.oam = none ∧
    start.ppu.lcdOn = true ∧ { start with ppu.lcdc := 0x7F }.ppu.lcdOn = false ∧
    { start with iflag := 0b11111 }.iflag.getLsbD 4 = true := by decide +kernel

theorem witness_FrameAccounting :
    (let s := { start with sched.frameCycles := 70215, cyc := 8 }
     s.sched.frameCycles + s.cyc < 70224) ∧
    (let s := { start with sched.frameCycles := 70216, cyc := 8 }
     70224 ≤ s.sched.frameCycles + s.cyc) := by decide

/-- The start state is sound and takes a step: NOP, which an unwritten byte is. -/
theorem witness_StepKeepsSound : start.sound ∧ isNext (step start) = true := by
  refine ⟨⟨by decide, ⟨by decide, by decide, by decide, by decide, by decide⟩, ⟨by decide, ?_⟩, ?_, fun _ => by decide,
    fun _ => by decide, trivial⟩, by decide +kernel⟩ <;> intro x h <;> cases h

theorem witness_StepKeepsConstants :
    start.sound ∧ isNext (step start) = true ∧ start.cart.mapper = .romOnly ∧
    (withCart (.mbc1 1 0 false false) 0).cart.mapper = .mbc1 1 0 false false :=
  ⟨witness_StepKeepsSound.1, witness_StepKeepsSound.2, by decide, by decide⟩

end Sys2Proof.Machine.Slice0
end

section
/-! PROOF. The control writes of the bank controllers: a write to a ROM address is one `Mapper.control`, and what that
makes of each controller's registers and of the ROM bank it selects. -/

namespace Sys2Proof.Machine

/-! ### From the write to the controller -/

theorem locate_isRom {s : State} {addr : Word} (h : addr.toNat < 0x8000) : ∃ key, locate s addr = .rom key := by
  by_cases h0 : addr.toNat < 0x4000
  · exact ⟨_, locate_rom0 h0⟩
  · exact ⟨_, locate_romBank (by omega) h⟩

/-- A write to 0000–7FFF never faults and is a control write alone, 20_memory.md R83. -/
theorem memWrite_control {s : State} {addr : Word} {v : Byte} (hr : restricted addr s = false)
    (h : addr.toNat < 0x8000) : memWrite addr v s = .next (s.setMapper (s.cart.mapper.control addr v)) := by
  obtain ⟨key, hkey⟩ := locate_isRom (s := s) h
  have noFault : writeFault addr v s = none := by simp [writeFault, hr, hkey]
  have written : writeByte addr v s = s.setMapper (s.cart.mapper.control addr v) := by
    simp [writeByte, hr, poke, hkey]
  rw [memWrite_next noFault, written]

/-! ### The fields a control write takes from the byte -/

theorem ramEnableOf_eq (v : Byte) : ramEnableOf v = decide (v.toNat % 16 = 10) := by
  unfold ramEnableOf
  rw [beq_eq_decide, decide_eq_decide, ← BitVec.toNat_inj]
  simp

theorem getLsbD_zero_eq (v : Byte) : v.getLsbD 0 = decide (v.toNat % 2 = 1) := by
  simp [BitVec.getLsbD, Nat.testBit_zero]

theorem getLsbD_eight_eq (addr : Word) : addr.getLsbD 8 = decide (addr.toNat / 0x100 % 2 = 1) := by
  simp [BitVec.getLsbD, Nat.testBit_eq_decide_div_mod_eq]

theorem lowBits_toNat {w : Nat} (x : BitVec w) (k : Nat) : (x.extractLsb' 0 k).toNat = x.toNat % 2 ^ k := by
  rw [BitVec.extractLsb'_toNat, Nat.shiftRight_zero]

theorem toNat_append_eq_add {m n : Nat} (hi : BitVec m) (lo : BitVec n) :
    (hi ++ lo).toNat = hi.toNat * 2 ^ n + lo.toNat := by
  rw [BitVec.toNat_append, ← Nat.shiftLeft_add_eq_or_of_lt lo.isLt, Nat.shiftLeft_eq]

/-! ### The zero remaps, 20_memory.md R109 to R111 -/

theorem fixMbc1_toNat (b : BitVec 7) :
    (fixMbc1 b).toNat = if b.toNat % 32 = 0 then b.toNat + 1 else b.toNat := by
  unfold fixMbc1
  split_ifs <;> bv_omega

theorem fixMbc2_toNat (b : BitVec 4) : (fixMbc2 b).toNat = if b.toNat = 0 then 1 else b.toNat := by
  unfold fixMbc2
  split_ifs <;> bv_omega

theorem fixMbc3_toNat (b : BitVec 5) : (fixMbc3 b).toNat = if b.toNat = 0 then 1 else b.toNat := by
  unfold fixMbc3
  split_ifs <;> bv_omega

/-- The bank of an MBC1 is the remapped number `{high2, low5}` in mode 0 and `low5` in mode 1. -/
theorem romBank_mbc1 (low5 : BitVec 5) (high2 : BitVec 2) (mode en : Bool) :
    (Mapper.mbc1 low5 high2 mode en).romBank =
      let raw := if mode then low5.toNat else high2.toNat * 32 + low5.toNat
      if raw % 32 = 0 then raw + 1 else raw := by
  cases mode
  · have joined : (high2 ++ low5 : BitVec 7).toNat = high2.toNat * 32 + low5.toNat := toNat_append_eq_add high2 low5
    simp [Mapper.romBank, fixMbc1_toNat, joined]
  · have widened : (low5.setWidth 7).toNat = low5.toNat := BitVec.toNat_setWidth_of_le (by decide)
    simp only [Mapper.romBank, if_true, fixMbc1_toNat, widened]

/-! ### Each controller, register by register

The model's chain of windows against one condition per register: a combination of conditions contradicts itself or gives
both sides the same registers. -/

section
variable (addr : Word) (v : Byte)

theorem control_mbc1 (low5 : BitVec 5) (high2 : BitVec 2) (mode en : Bool) :
    (Mapper.mbc1 low5 high2 mode en).control addr v =
      .mbc1 (if 0x2000 ≤ addr.toNat ∧ addr.toNat < 0x4000 then v.extractLsb' 0 5 else low5)
        (if 0x4000 ≤ addr.toNat ∧ addr.toNat < 0x6000 then v.extractLsb' 0 2 else high2)
        (if 0x6000 ≤ addr.toNat then v.getLsbD 0 else mode)
        (if addr.toNat < 0x2000 then ramEnableOf v else en) := by
  unfold Mapper.control
  dsimp only
  split_ifs <;> first | omega | rfl

theorem control_mbc2 (bank : BitVec 4) (en : Bool) :
    (Mapper.mbc2 bank en).control addr v =
      .mbc2 (if addr.toNat < 0x4000 ∧ addr.toNat / 0x100 % 2 = 1 then fixMbc2 (v.extractLsb' 0 4) else bank)
        (if addr.toNat < 0x4000 ∧ addr.toNat / 0x100 % 2 = 0 then ramEnableOf v else en) := by
  unfold Mapper.control
  simp only [getLsbD_eight_eq, decide_eq_true_eq]
  split_ifs <;> first | omega | rfl

theorem control_mbc3 (bank : BitVec 5) (sel : Byte) (en : Bool) (rtc : Rtc) :
    (Mapper.mbc3 bank sel en rtc).control addr v =
      .mbc3 (if 0x2000 ≤ addr.toNat ∧ addr.toNat < 0x4000 then fixMbc3 (v.extractLsb' 0 5) else bank)
        (if 0x4000 ≤ addr.toNat ∧ addr.toNat < 0x6000 then v else sel)
        (if addr.toNat < 0x2000 then ramEnableOf v else en) rtc := by
  unfold Mapper.control
  dsimp only
  split_ifs <;> first | omega | rfl

theorem control_mbc5 (bank : BitVec 9) (ramBank : BitVec 4) (en : Bool) :
    (Mapper.mbc5 bank ramBank en).control addr v =
      .mbc5 (if 0x2000 ≤ addr.toNat ∧ addr.toNat < 0x3000 then bank.extractLsb' 8 1 ++ v
          else if 0x3000 ≤ addr.toNat ∧ addr.toNat < 0x4000 then v.extractLsb' 0 1 ++ bank.extractLsb' 0 8 else bank)
        (if 0x4000 ≤ addr.toNat ∧ addr.toNat < 0x6000 then v.extractLsb' 0 4 else ramBank)
        (if addr.toNat < 0x2000 then ramEnableOf v else en) := by
  unfold Mapper.control
  dsimp only
  split_ifs <;> first | omega | rfl

/-! ### The ROM bank after a control write, 20_memory.md R110 to R112 -/

theorem romBank_control_mbc2 (bank : BitVec 4) (en : Bool) :
    ((Mapper.mbc2 bank en).control addr v).romBank =
      if addr.toNat < 0x4000 ∧ addr.toNat / 0x100 % 2 = 1 then (if v.toNat % 16 = 0 then 1 else v.toNat % 16)
      else bank.toNat := by
  simp only [control_mbc2, Mapper.romBank, apply_ite BitVec.toNat, fixMbc2_toNat, lowBits_toNat, Nat.reducePow]

theorem romBank_control_mbc3 (bank : BitVec 5) (sel : Byte) (en : Bool) (rtc : Rtc) :
    ((Mapper.mbc3 bank sel en rtc).control addr v).romBank =
      if 0x2000 ≤ addr.toNat ∧ addr.toNat < 0x4000 then (if v.toNat % 32 = 0 then 1 else v.toNat % 32)
      else bank.toNat := by
  simp only [control_mbc3, Mapper.romBank, apply_ite BitVec.toNat, fixMbc3_toNat, lowBits_toNat, Nat.reducePow]

theorem romBank_control_mbc5 (bank : BitVec 9) (ramBank : BitVec 4) (en : Bool) :
    ((Mapper.mbc5 bank ramBank en).control addr v).romBank =
      if 0x2000 ≤ addr.toNat ∧ addr.toNat < 0x3000 then bank.toNat / 256 * 256 + v.toNat
      else if 0x3000 ≤ addr.toNat ∧ addr.toNat < 0x4000 then v.toNat % 2 * 256 + bank.toNat % 256
      else bank.toNat := by
  have low : (bank.extractLsb' 8 1 ++ v : BitVec 9).toNat = bank.toNat / 256 * 256 + v.toNat := by
    have := bank.isLt
    rw [toNat_append_eq_add, BitVec.extractLsb'_toNat, Nat.shiftRight_eq_div_pow]
    omega
  have high : (v.extractLsb' 0 1 ++ bank.extractLsb' 0 8 : BitVec 9).toNat = v.toNat % 2 * 256 + bank.toNat % 256 := by
    simp only [toNat_append_eq_add, lowBits_toNat, Nat.reducePow]
  simp only [control_mbc5, Mapper.romBank, apply_ite BitVec.toNat, low, high]

end

/-- Settles O38: the write is one `Mapper.control`, and a controller's registers are those of its `control_`
lemma. -/
theorem bankControllerWrites : Obligations.BankControllerWrites := by
  unfold Obligations.BankControllerWrites
  intro s addr v hr hn
  refine ⟨_, memWrite_control hr hn, rfl, rfl, fun hm => ?romOnly, fun low5 high2 mode en hm => ?mbc1,
    fun bank en hm => ?mbc2, fun bank sel en rtc hm => ?mbc3, fun bank ramBank en hm => ?mbc5⟩
  all_goals simp only [State.setMapper_cart, hm]
  case romOnly => exact ⟨rfl, rfl⟩
  case mbc1 =>
    rw [control_mbc1]
    refine ⟨_, _, _, _, rfl, ?_, ?_, ?_, ?_, romBank_mbc1 ..⟩
    · rw [ramEnableOf_eq]
    · simp only [apply_ite BitVec.toNat, lowBits_toNat, Nat.reducePow]
    · simp only [apply_ite BitVec.toNat, lowBits_toNat, Nat.reducePow]
    · rw [getLsbD_zero_eq]
  case mbc2 => exact ⟨romBank_control_mbc2 .., _, by rw [control_mbc2, ramEnableOf_eq]⟩
  case mbc3 => exact ⟨romBank_control_mbc3 .., _, by rw [control_mbc3, ramEnableOf_eq]⟩
  case mbc5 =>
    refine ⟨romBank_control_mbc5 .., _, _, by rw [control_mbc5, ramEnableOf_eq], ?_⟩
    simp only [apply_ite BitVec.toNat, lowBits_toNat, Nat.reducePow]

end Sys2Proof.Machine
end

section
/-! PROOF. The eleven illegal opcodes, 30_encoding.md R166 and 45_system.md R426: a decoded instruction's encoding begins
with the opcode it was decoded from, so no other opcode yields an illegal instruction; and a step that fetches one faults
in its first phase. -/

namespace Sys2Proof

/-! ### The first byte of a decoded instruction is its opcode, 30_encoding.md R161 to R165 -/

theorem headD_encode_decodeX0 (y z : Fin 8) (n : Byte) (nn : Word) :
    (encode (decodeX0 y z n nn)).headD 0 = BitVec.ofNat 8 (8 * y + z) := by
  fin_cases z <;> fin_cases y <;> rfl

theorem headD_encode_decodeX1 (y z : Fin 8) :
    (encode (decodeX1 y z)).headD 0 = BitVec.ofNat 8 (0x40 + 8 * y + z) := by
  fin_cases z <;> fin_cases y <;> rfl

theorem headD_encode_decodeX2 (y z : Fin 8) :
    (encode (decodeX2 y z)).headD 0 = BitVec.ofNat 8 (0x80 + 8 * y + z) := by
  fin_cases z <;> fin_cases y <;> rfl

theorem headD_encode_decodePrefixed : ∀ op2 : Byte, (encode (decodePrefixed op2)).headD 0 = 0xCB#8 := by
  decide

theorem headD_encode_decodeX3 (y z : Fin 8) (n : Byte) (nn : Word) :
    (encode (decodeX3 y z n nn)).headD 0 = BitVec.ofNat 8 (0xC0 + 8 * y + z) := by
  match z with
  | 0 | 1 | 2 | 4 | 5 | 6 | 7 => fin_cases y <;> rfl
  | 3 =>
    match y with
    | 1 => exact headD_encode_decodePrefixed n
    | 0 | 2 | 3 | 4 | 5 | 6 | 7 => rfl

theorem ofNat_fields (op : Byte) : BitVec.ofNat 8 (64 * fieldX op + 8 * fieldY op + fieldZ op) = op := by
  have := op.isLt
  have sum : 64 * (fieldX op).val + 8 * (fieldY op).val + (fieldZ op).val = op.toNat := by
    simp only [fieldX, fieldY, fieldZ]
    omega
  rw [sum, BitVec.ofNat_toNat, BitVec.setWidth_eq]

/-- Whatever the operand bytes, the instruction decoded from the opcode `op` is encoded with `op` in front. -/
theorem headD_encode_decodeBytes (op b1 b2 : Byte) : (encode (decodeBytes op b1 b2)).headD 0 = op := by
  have fields := ofNat_fields op
  unfold decodeBytes
  split <;> rename_i hx <;> rw [hx] at fields
  · rw [headD_encode_decodeX0]; simpa using fields
  · rw [headD_encode_decodeX1]; exact fields
  · rw [headD_encode_decodeX2]; exact fields
  · rw [headD_encode_decodeX3]; exact fields

end Sys2Proof

namespace Sys2Proof.Machine

/-! ### The illegal opcodes and their instructions -/

/-- The opcodes of 30_encoding.md R166 with the instructions they decode to. -/
def illegalTable : List (Byte × Instr) :=
  [(0xD3, .illegalD3), (0xDB, .illegalDB), (0xDD, .illegalDD), (0xE3, .illegalE3), (0xE4, .illegalE4),
   (0xEB, .illegalEB), (0xEC, .illegalEC), (0xED, .illegalED), (0xF4, .illegalF4), (0xFC, .illegalFC),
   (0xFD, .illegalFD)]

theorem instrLength_illegal : ∀ e ∈ illegalTable, instrLength e.1 = 1 := by decide

theorem headD_encode_illegal : ∀ e ∈ illegalTable, (encode e.2).headD 0 = e.1 := by decide

theorem decodeBytes_illegal (b1 b2 : Byte) : ∀ e ∈ illegalTable, decodeBytes e.1 b1 b2 = e.2 := by
  simp only [illegalTable, List.forall_mem_cons]
  exact ⟨rfl, rfl, rfl, rfl, rfl, rfl, rfl, rfl, rfl, rfl, rfl, List.forall_mem_nil _⟩

theorem exec_illegal (s : State) : ∀ e ∈ illegalTable, exec e.2 s = illegalOpcode e.1 s := by
  simp only [illegalTable, List.forall_mem_cons]
  exact ⟨rfl, rfl, rfl, rfl, rfl, rfl, rfl, rfl, rfl, rfl, rfl, List.forall_mem_nil _⟩

theorem mem_illegalOpcodes_iff {op : Byte} :
    op.toNat ∈ [0xD3, 0xDB, 0xDD, 0xE3, 0xE4, 0xEB, 0xEC, 0xED, 0xF4, 0xFC, 0xFD] ↔
      ∃ i, (op, i) ∈ illegalTable := by
  have opcodes : [0xD3, 0xDB, 0xDD, 0xE3, 0xE4, 0xEB, 0xEC, 0xED, 0xF4, 0xFC, 0xFD] =
      illegalTable.map fun e => e.1.toNat := by decide
  rw [opcodes, List.mem_map]
  constructor
  · rintro ⟨⟨op', i⟩, he, hop⟩
    exact ⟨i, BitVec.toNat_inj.mp hop ▸ he⟩
  · rintro ⟨i, he⟩
    exact ⟨_, he, rfl⟩

theorem mem_illegalInstrs_iff {i : Instr} :
    i ∈ [.illegalD3, .illegalDB, .illegalDD, .illegalE3, .illegalE4, .illegalEB, .illegalEC, .illegalED, .illegalF4,
        .illegalFC, .illegalFD] ↔ ∃ op, (op, i) ∈ illegalTable := by
  change i ∈ illegalTable.map Prod.snd ↔ _
  simp

/-- An opcode decodes to an illegal instruction only if it is that instruction's own, 30_encoding.md R166. -/
theorem decodeBytes_mem_illegal_iff (op b1 b2 : Byte) :
    (∃ i, (op, i) ∈ illegalTable) ↔ ∃ op', (op', decodeBytes op b1 b2) ∈ illegalTable := by
  constructor
  · rintro ⟨i, he⟩
    exact ⟨op, (decodeBytes_illegal b1 b2 _ he).symm ▸ he⟩
  · rintro ⟨op', he⟩
    obtain rfl : op = op' := (headD_encode_decodeBytes op b1 b2).symm.trans (headD_encode_illegal _ he)
    exact ⟨_, he⟩

/-! ### The start of a step -/

@[simp] theorem beginStep_pc (s : State) : (beginStep s).pc = s.pc := by unfold beginStep promote; split <;> rfl

@[simp] theorem beginStep_draws (s : State) : (beginStep s).draws = s.draws := by
  unfold beginStep promote; split <;> rfl

@[simp] theorem beginStep_halted (s : State) : (beginStep s).halted = s.halted := by
  unfold beginStep promote; split <;> rfl

@[simp] theorem beginStep_haltBugLatch (s : State) : (beginStep s).haltBugLatch = s.haltBugLatch := by
  unfold beginStep promote; split <;> rfl

/-! ### Fetching an instruction of one byte -/

theorem fetch8_ok {s : State} (hf : readFault s.pc s = none) (hl : s.haltBugLatch = false) :
    fetch8 s = .ok (readByte s.pc s) { s with draws := s.draws + 1, pc := s.pc + 1 } := by
  simp [fetch8, memRead_ok hf, State.advancePc, State.countRead, hl]

theorem sameBus_opAddr (s : State) (a : Word) : s.sameBus { s with opAddr := a } :=
  ⟨rfl, rfl, rfl, rfl, rfl, rfl, rfl, rfl, rfl, rfl, rfl, rfl⟩

theorem fetchInstr_oneByte {s : State} (hf : readFault s.pc s = none) (hl : s.haltBugLatch = false)
    (hlen : instrLength (readByte s.pc s) = 1) :
    fetchInstr s =
      .ok (decodeBytes (readByte s.pc s) 0 0) { s with opAddr := s.pc, draws := s.draws + 1, pc := s.pc + 1 } := by
  have bus := sameBus_opAddr s s.pc
  have fetched := fetch8_ok (s := { s with opAddr := s.pc }) ((readFault_congr bus s.pc).trans hf) hl
  rw [readByte_congr bus rfl] at fetched
  simp [fetchInstr, fetched, hlen, fetchOperands]

/-- The step of a running core whose instruction faults ends there: no interrupt check, no device, no accounting. -/
theorem step_of_exec_fault {s t : State} {i : Instr} {f : Fault} (hs : s.fault = none) (hh : s.halted = false)
    (hi : fetchInstr (beginStep s) = .ok i t) (he : exec i t = .fault f) : step s = .fault f := by
  simp [step, hs, runStep, executePhase, hh, hi, he]

/-- Settles O5: illegal opcodes and illegal instructions correspond by `decodeBytes_mem_illegal_iff`, and the one byte
fetched leaves pc one past it before the instruction faults. -/
theorem illegalOpcodesFault : Obligations.IllegalOpcodesFault := by
  unfold Obligations.IllegalOpcodesFault
  simp only [mem_illegalOpcodes_iff, mem_illegalInstrs_iff]
  refine ⟨decodeBytes_mem_illegal_iff, ?_⟩
  rintro op b1 b2 s ⟨i, he⟩
  rw [decodeBytes_illegal b1 b2 _ he]
  refine ⟨exec_illegal s _ he, fun hs hh hl hf hop => ?_⟩
  subst hop
  have fetched := fetchInstr_oneByte (s := beginStep s) (by simpa using hf) (by simpa using hl)
    (by simpa using instrLength_illegal _ he)
  simp only [beginStep_pc, beginStep_draws, decodeBytes_illegal 0 0 _ he] at fetched
  exact step_of_exec_fault hs hh fetched (exec_illegal _ _ he)

end Sys2Proof.Machine
end

section
/-! PROOF. The 8-bit arithmetic and logic instructions, 41_alu8.md R250 to R282: an ALU operation in any of its forms is
`State.applyAlu`, so what A and the flags become is what `alu8` answers, and each statement is the reading of one ALU
function on integers or bits. -/

namespace Sys2Proof.Machine

/-! ### The forms, R250 -/

/-- Whatever reads come first, an instruction that ends in `State.applyAlu` completes with the answer of `alu8`. -/
theorem completes_of_applyAlu {i : Instr} {s : State} {op : AluOp} {v : Byte} {cycles reads : Nat}
    (h : exec i s = .next (({ s with draws := s.draws + reads }.applyAlu op v).spend cycles)) :
    Completes i s [.a] (alu8 op s.regs.a v s.flags.cy).2 s.pc s.sp cycles reads fun t =>
      t.regs.a = (alu8 op s.regs.a v s.flags.cy).1 := by
  refine ⟨_, h, rfl, rfl, rfl, rfl, rfl, rfl, coreFrame_of (fun q hq => ?_) rfl⟩
  exact State.reg_setReg_other _ .a q _ (by simpa using hq)

theorem aluWithHL_ok {op : AluOp} {s : State} (h : readFault s.hl s = none) :
    aluWithHL op s = .next ((s.countRead.applyAlu op (readByte s.hl s)).spend 8) := by
  simp [aluWithHL, withOperand, memRead_ok h]

theorem aluWithHL_fault {op : AluOp} {s : State} {r : FaultReason} (h : readFault s.hl s = some r) :
    aluWithHL op s = .fault (raiseFault r s) := by
  simp [aluWithHL, withOperand, memRead_fault h]

/-- The three forms do to A and the flags what `alu8` answers for the operand. -/
theorem aluForms_of_alu8 {op : AluOp} {s : State} {result : Byte → Byte} {flags : Byte → Flags}
    (h : ∀ v, alu8 op s.regs.a v s.flags.cy = (result v, flags v)) : AluForms op s result flags := by
  have completes {i : Instr} {v : Byte} {cycles reads : Nat}
      (hi : exec i s = .next (({ s with draws := s.draws + reads }.applyAlu op v).spend cycles)) :
      Completes i s [.a] (flags v) s.pc s.sp cycles reads fun t => t.regs.a = result v := by
    simpa only [h] using completes_of_applyAlu hi
  refine ⟨fun r => completes (exec_aluReg op r s), fun n => completes (exec_aluImm op n s),
    fun r hr => ?_, fun hr => ?_⟩
  · rw [exec_aluHL, aluWithHL_fault hr]
  · exact completes ((exec_aluHL op s).trans (aluWithHL_ok hr))

/-! ### The ALU functions on integers and bits, R251 to R275 -/

theorem ofBool_setWidth (c : Bool) : (BitVec.ofBool c).setWidth 8 = BitVec.ofNat 8 c.toNat := by cases c <;> rfl

theorem byte_ofNat_eq_zero_iff (n : Nat) : BitVec.ofNat 8 n = 0#8 ↔ n % 256 = 0 := by
  simp [← BitVec.toNat_inj]

theorem byte_ofInt_eq_zero_iff (n : Int) : BitVec.ofInt 8 n = 0#8 ↔ n % 256 = 0 := by
  rw [← BitVec.toNat_inj, BitVec.toNat_ofInt]
  simp only [BitVec.toNat_ofNat]
  omega

theorem ofInt_sub (w : Nat) (m n : Int) : BitVec.ofInt w (m - n) = BitVec.ofInt w m - BitVec.ofInt w n := by
  rw [sub_eq_add_neg, BitVec.ofInt_add, BitVec.ofInt_neg, BitVec.sub_eq_add_neg]

theorem byte_sub_eq_ofInt (a v : Byte) : a - v = BitVec.ofInt 8 (a.toNat - v.toNat) := by
  simp [ofInt_sub]

theorem add8_eq (a v : Byte) :
    add8 a v = (BitVec.ofNat 8 (a.toNat + v.toNat),
      { z := decide ((a.toNat + v.toNat) % 256 = 0), n := false, h := decide (a.toNat % 16 + v.toNat % 16 > 15),
        cy := decide (a.toNat + v.toNat > 255) }) := by
  simp only [add8, BitVec.add_def, byte_ofNat_eq_zero_iff]

theorem adc8_eq (a v : Byte) (c : Bool) :
    adc8 a v c = (BitVec.ofNat 8 (a.toNat + v.toNat + c.toNat),
      { z := decide ((a.toNat + v.toNat + c.toNat) % 256 = 0), n := false,
        h := decide (a.toNat % 16 + v.toNat % 16 + c.toNat > 15),
        cy := decide (a.toNat + v.toNat + c.toNat > 255) }) := by
  have sum : a + v + (BitVec.ofBool c).setWidth 8 = BitVec.ofNat 8 (a.toNat + v.toNat + c.toNat) := by
    rw [BitVec.ofNat_add, ← BitVec.add_def, ofBool_setWidth]
  simp only [adc8, sum, byte_ofNat_eq_zero_iff]

theorem sub8_eq (a v : Byte) :
    sub8 a v = (BitVec.ofInt 8 (a.toNat - v.toNat),
      { z := decide (a.toNat = v.toNat), n := true, h := decide (a.toNat % 16 < v.toNat % 16),
        cy := decide (a.toNat < v.toNat) }) := by
  have equal : a - v = 0#8 ↔ a.toNat = v.toNat := sub_eq_zero.trans BitVec.toNat_inj.symm
  simp only [sub8, equal, ← byte_sub_eq_ofInt]

theorem sbc8_eq (a v : Byte) (c : Bool) :
    sbc8 a v c = (BitVec.ofInt 8 (a.toNat - v.toNat - c.toNat),
      { z := decide (((a.toNat : Int) - v.toNat - c.toNat) % 256 = 0), n := true,
        h := decide (a.toNat % 16 < v.toNat % 16 + c.toNat), cy := decide (a.toNat < v.toNat + c.toNat) }) := by
  have difference :
      a - v - (BitVec.ofBool c).setWidth 8 = BitVec.ofInt 8 (a.toNat - v.toNat - c.toNat) := by
    rw [ofInt_sub, ← byte_sub_eq_ofInt, ofBool_setWidth, BitVec.ofInt_natCast]
  simp only [sbc8, difference, byte_ofInt_eq_zero_iff]

theorem and8_eq (a v : Byte) :
    and8 a v = (a &&& v, { z := decide (a.toNat &&& v.toNat = 0), n := false, h := true, cy := false }) := by
  simp only [and8, ← BitVec.toNat_inj, BitVec.toNat_and, BitVec.toNat_ofNat, Nat.zero_mod]

theorem xor8_eq (a v : Byte) :
    xor8 a v = (a ^^^ v, { z := decide (a = v), n := false, h := false, cy := false }) := by
  simp only [xor8, BitVec.xor_eq_zero_iff]

theorem or8_eq (a v : Byte) :
    or8 a v = (a ||| v,
      { z := decide (a = 0#8) && decide (v = 0#8), n := false, h := false, cy := false }) := by
  simp only [or8, BitVec.or_eq_zero_iff, Bool.decide_and]

/-- Settles O21: the forms by `aluForms_of_alu8`, the sums by `add8_eq` and `adc8_eq`. -/
theorem addAndAdc : Obligations.AddAndAdc := by
  unfold Obligations.AddAndAdc
  intro s
  exact ⟨aluForms_of_alu8 fun v => add8_eq s.regs.a v, aluForms_of_alu8 fun v => adc8_eq s.regs.a v s.flags.cy⟩

/-- Settles O22: the forms by `aluForms_of_alu8`, the differences by `sub8_eq` and `sbc8_eq`; CP answers the old A
with the flags of `sub8`. -/
theorem subSbcAndCp : Obligations.SubSbcAndCp := by
  unfold Obligations.SubSbcAndCp
  intro s
  refine ⟨aluForms_of_alu8 fun v => sub8_eq s.regs.a v, aluForms_of_alu8 fun v => sbc8_eq s.regs.a v s.flags.cy,
    aluForms_of_alu8 fun v => ?_⟩
  simp only [alu8, cp8, sub8_eq]

/-- Settles O23: the forms by `aluForms_of_alu8`, Z read off the operands by `and8_eq`, `xor8_eq` and `or8_eq`. -/
theorem andXorOr : Obligations.AndXorOr := by
  unfold Obligations.AndXorOr
  intro s
  exact ⟨aluForms_of_alu8 fun v => and8_eq s.regs.a v, aluForms_of_alu8 fun v => xor8_eq s.regs.a v,
    aluForms_of_alu8 fun v => or8_eq s.regs.a v⟩

end Sys2Proof.Machine
end

section
/-! PROOF. The 16-bit arithmetic instructions, 42_alu16.md R300 to R305: each of the five writes one register pair and
the flags and nothing else, so each statement is that shape together with the reading of one 16-bit sum. -/

namespace Sys2Proof.Machine

/-! ### Writing a register pair -/

theorem State.reg_setPair_other (s : State) (p : RegPair) (v : Word) (q : Reg8) (h : q ∉ pairHalves p) :
    (s.setPair p v).reg q = s.reg q := by
  have halves {hi lo : Reg8} (hq : q ∉ [hi, lo]) :
      ((s.regs.set hi (hiByte v)).set lo (loByte v)).get q = s.regs.get q := by
    obtain ⟨notHi, notLo⟩ : q ≠ hi ∧ q ≠ lo := by simpa using hq
    rw [Regs.get_set_other _ _ _ _ notLo, Regs.get_set_other _ _ _ _ notHi]
  cases p with
  | sp => rfl
  | bc | de | hl => exact halves h

theorem State.setPair_sp (s : State) (p : RegPair) (v : Word) :
    (s.setPair p v).sp = if p = .sp then v else s.sp := by cases p <;> rfl

/-- An instruction that writes one pair and the flags completes with that pair and those flags. -/
theorem completes_of_setPair {i : Instr} {s : State} {p : RegPair} {v : Word} {flags : Flags} {cycles : Nat}
    {post : State → Prop} (h : exec i s = .next (((s.setPair p v).setFlags flags).spend cycles))
    (hpost : ∀ t, t.pair p = v → post t) :
    Completes i s (pairHalves p) flags s.pc (if p = .sp then v else s.sp) cycles 0 post := by
  have pairKept : (((s.setPair p v).setFlags flags).spend cycles).pair p = (s.setPair p v).pair p := by cases p <;> rfl
  refine ⟨_, h, hpost _ (pairKept.trans (s.pair_setPair p v)), rfl, s.setPair_pc p v, s.setPair_sp p v, rfl,
    s.setPair_draws p v, coreFrame_of (s.reg_setPair_other p v) ?_⟩
  cases p <;> rfl

/-! ### The sums -/

/-- INC ss and DEC ss add 1 and 0xFFFF modulo 2^16 and write no flag, R301 and R302. -/
theorem completes_of_stepPair {i : Instr} {s : State} {p : RegPair} {d : Word} (h : exec i s = stepPair d p s) :
    Completes i s (pairHalves p) s.flags s.pc (if p = .sp then s.sp + d else s.sp) 8 0
      fun t => (t.pair p).toNat = ((s.pair p).toNat + d.toNat) % 0x10000 := by
  have flagsKept : (s.setPair p (s.pair p + d)).setFlags s.flags = s.setPair p (s.pair p + d) := by cases p <;> rfl
  have spAfter : (if p = .sp then s.pair p + d else s.sp) = if p = .sp then s.sp + d else s.sp := by cases p <;> rfl
  rw [← spAfter]
  refine completes_of_setPair (by rw [flagsKept, h, stepPair]) fun t ht => ?_
  rw [ht, BitVec.toNat_add]

/-- The displacement added to SP counts as a signed integer, R304. -/
theorem addSp_fst (v : Word) (e : Byte) : (addSp v e).1 = BitVec.ofInt 16 (v.toNat + e.toInt) := by
  simp only [addSp, BitVec.signExtend, BitVec.ofInt_add, BitVec.ofInt_natCast, BitVec.ofNat_toNat, BitVec.setWidth_eq]

/-- Settles O26: INC and DEC by `completes_of_stepPair`, the three additions by `completes_of_setPair`, with the sum to
SP read by `addSp_fst`. -/
theorem wordArithmetic : Obligations.WordArithmetic := by
  unfold Obligations.WordArithmetic
  intro p e s hl v spFlags spSum
  have spSumEq : (addSp s.sp e).1 = spSum := addSp_fst s.sp e
  refine ⟨completes_of_stepPair (exec_incPair p s), ?_, ?_, ?_, ?_⟩
  · rw [BitVec.sub_eq_add_neg]
    exact completes_of_stepPair (exec_decPair p s)
  · exact completes_of_setPair (p := .hl) (exec_addHLPair p s) fun t ht =>
      (congrArg BitVec.toNat ht).trans (BitVec.toNat_add s.hl (s.pair p))
  · rw [← spSumEq]
    exact completes_of_setPair (p := .sp) rfl fun _ _ => trivial
  · rw [← spSumEq]
    exact completes_of_setPair (p := .hl) rfl fun _ ht => ht

end Sys2Proof.Machine
end

section
/-! PROOF. The rotates and shifts of a register, 43_rotate_shift_bit.md R330 to R358: each writes one register and the
flags and nothing else. The functions put a byte together from its bits; read as shifts of the whole byte they are those
of `rotResult`. -/

namespace Sys2Proof.Machine

/-! ### Writing a register -/

/-- An instruction that writes one register and the flags completes with that register and those flags. -/
theorem completes_of_setReg {i : Instr} {s : State} {r : Reg8} {v : Byte} {flags : Flags} {cycles : Nat}
    (h : exec i s = .next (((s.setReg r v).setFlags flags).spend cycles)) :
    Completes i s [r] flags s.pc s.sp cycles 0 fun t => t.reg r = v := by
  refine ⟨_, h, s.reg_setReg_same r v, rfl, rfl, rfl, rfl, rfl, coreFrame_of (fun q hq => ?_) rfl⟩
  exact s.reg_setReg_other r q v (by simpa using hq)

/-! ### Bits put together, as shifts of the whole word -/

theorem lowBits_append {m n : Nat} (v : BitVec (m + n)) (lo : BitVec n) :
    v.extractLsb' 0 m ++ lo = v <<< n ||| lo.setWidth (m + n) := by
  ext k hk
  by_cases hkn : k < n
  · simp [BitVec.getElem_append, hkn]
  · have inRange : k - n < m + n := by omega
    simp [BitVec.getElem_append, hkn, BitVec.getLsbD_of_ge lo k (not_lt.mp hkn), BitVec.getLsbD_eq_getElem inRange]

theorem highBits_setWidth (m n : Nat) (v : BitVec (m + n)) : (v.extractLsb' m n).setWidth (m + n) = v >>> m := by
  ext k hk
  by_cases hkn : k < n
  · simp [hkn]
  · have pastEnd : m + n ≤ m + k := by omega
    simp [hkn, BitVec.getLsbD_of_ge v (m + k) pastEnd]

theorem append_highBits {m n : Nat} (v : BitVec (m + n)) (hi : BitVec m) :
    hi ++ v.extractLsb' m n = hi.setWidth (m + n) <<< n ||| v >>> m := by
  rw [← highBits_setWidth, ← BitVec.setWidth_append_eq_shiftLeft_setWidth_or, BitVec.setWidth_eq]

theorem lowBits_append_highBits (m n : Nat) (v : BitVec (m + n)) :
    v.extractLsb' 0 m ++ v.extractLsb' m n = v <<< n ||| v >>> m := by
  rw [lowBits_append, highBits_setWidth]

/-! ### The functions, R335 to R356 -/

theorem rlc8_fst (v : Byte) : (rlc8 v).1 = v.rotateLeft 1 := lowBits_append_highBits 7 1 v

theorem swap8_fst (v : Byte) : (swap8 v).1 = v.rotateLeft 4 := lowBits_append_highBits 4 4 v

theorem rrc8_fst (v : Byte) : (rrc8 v).1 = v.rotateRight 1 :=
  (lowBits_append_highBits 1 7 v).trans (BitVec.or_comm _ _)

theorem rl8_fst (v : Byte) (cin : Bool) : (rl8 v cin).1 = v <<< 1 ||| (if cin then 0x01#8 else 0x00#8) :=
  (lowBits_append (m := 7) (n := 1) v _).trans (by cases cin <;> rfl)

theorem rr8_fst (v : Byte) (cin : Bool) : (rr8 v cin).1 = v >>> 1 ||| (if cin then 0x80#8 else 0x00#8) :=
  (append_highBits (m := 1) (n := 7) v _).trans ((BitVec.or_comm _ _).trans (by cases cin <;> rfl))

theorem sla8_fst (v : Byte) : (sla8 v).1 = v <<< 1 :=
  (BitVec.shiftLeft_eq_concat_of_lt (x := v) (n := 1) (by decide)).symm

theorem srl8_fst (v : Byte) : (srl8 v).1 = v >>> 1 :=
  (BitVec.ushiftRight_eq_extractLsb'_of_lt (x := v) (n := 1) (by decide)).symm

/-- Bits 0 to 6 are those above them, and bit 7 stays as the sign. -/
theorem sra8_fst (v : Byte) : (sra8 v).1 = v.sshiftRight 1 := by
  apply BitVec.eq_of_getLsbD_eq
  intro k hk
  refine (BitVec.getLsbD_append (x := v.extractLsb' 7 1) (y := v.extractLsb' 1 7)).trans ?_
  rw [BitVec.getLsbD_sshiftRight]
  obtain hk7 | rfl : k < 7 ∨ k = 7 := by omega
  · simp [hk7, show 1 + k < 8 by omega, show ¬8 ≤ k by omega]
  · simp [BitVec.msb_eq_getLsbD_last]

/-- Each function answers its operation on the whole byte and the bit shifted out. -/
theorem rot8_eq (op : RotOp) (v : Byte) (cin : Bool) : rot8 op v cin = (rotResult op v cin, rotOut op v) := by
  refine Prod.ext ?_ (by cases op <;> rfl)
  cases op with
  | rlc => exact rlc8_fst v
  | rrc => exact rrc8_fst v
  | rl => exact rl8_fst v cin
  | rr => exact rr8_fst v cin
  | sla => exact sla8_fst v
  | sra => exact sra8_fst v
  | swap => exact swap8_fst v
  | srl => exact srl8_fst v

/-- RLCA, RRCA, RLA and RRA write A and clear Z, R331 to R334. -/
theorem completes_of_rotateAcc {i : Instr} {s : State} {op : RotOp} (h : exec i s = rotateAcc op s) :
    Completes i s [.a] { z := false, n := false, h := false, cy := rotOut op s.regs.a } s.pc s.sp 4 0
      fun t => t.regs.a = rotResult op s.regs.a s.flags.cy := by
  rw [rotateAcc, rot8_eq] at h
  exact completes_of_setReg h

/-- Settles O27: each is `completes_of_setReg` with the answer of `rot8`, read by `rot8_eq`; the accumulator forms
clear Z, so they go by `completes_of_rotateAcc`. -/
theorem registerRotates : Obligations.RegisterRotates := by
  unfold Obligations.RegisterRotates
  intro op r s v rotatesA
  have prefixed := exec_rotReg op r s
  rw [rotateReg, rot8_eq] at prefixed
  exact ⟨completes_of_rotateAcc rfl, completes_of_rotateAcc rfl, completes_of_rotateAcc rfl,
    completes_of_rotateAcc rfl, completes_of_setReg prefixed⟩

end Sys2Proof.Machine
end

section
/-! PROOF. The interrupt check, 60_exceptions.md R459 to R464: which source the priority order picks, what the push of a
dispatch leaves alone, and what the check answers in each of its cases. -/

namespace Sys2Proof.Machine

/-! ### The source taken, R459 and R460 -/

theorem IntSource.exists_bit_eq {n : Nat} (h : n < 5) : ∃ src : IntSource, src.bit = n := by
  match n, h with
  | 0, _ => exact ⟨.vblank, rfl⟩
  | 1, _ => exact ⟨.lcdStat, rfl⟩
  | 2, _ => exact ⟨.timer, rfl⟩
  | 3, _ => exact ⟨.serial, rfl⟩
  | 4, _ => exact ⟨.joypad, rfl⟩

/-- The source whose bit is set with no lower bit set is the one the priority order picks. -/
theorem firstPending_eq_some {pend : BitVec 5} {src : IntSource} (isSet : pend.getLsbD src.bit = true)
    (noneBelow : ∀ k, k < src.bit → pend.getLsbD k = false) : firstPending pend = some src := by
  have skip (k : Nat) (hk : k < src.bit) {a b : Option IntSource} : (if pend.getLsbD k then a else b) = b :=
    if_neg (by simp [noneBelow k hk])
  cases src with
  | vblank => exact if_pos isSet
  | lcdStat => exact (skip 0 (by decide)).trans (if_pos isSet)
  | timer => exact (skip 0 (by decide)).trans ((skip 1 (by decide)).trans (if_pos isSet))
  | serial =>
    exact (skip 0 (by decide)).trans ((skip 1 (by decide)).trans ((skip 2 (by decide)).trans (if_pos isSet)))
  | joypad =>
    exact (skip 0 (by decide)).trans ((skip 1 (by decide)).trans ((skip 2 (by decide)).trans
      ((skip 3 (by decide)).trans (if_pos isSet))))

@[simp] theorem firstPending_zero : firstPending 0#5 = none := by decide

/-! ### The dispatch, R462 -/

/-- A push that completes moves sp two down; the other core registers stay, wherever the bytes go. -/
theorem push16_core {v : Word} {s t : State} (h : push16 v s = .next t) :
    t.sp = s.sp - 2 ∧ t.regs = s.regs ∧ t.flags = s.flags ∧ t.ime = s.ime ∧ t.halted = s.halted ∧
      t.imePending = s.imePending ∧ t.cyc = s.cyc := by
  obtain ⟨u, -, rfl, -, rfl⟩ := push16_eq_next h
  simp [sub_sub]

theorem takeInterrupt_next {n : IntSource} {s t : State} (h : push16 s.pc (s.acknowledge n) = .next t) :
    takeInterrupt n s = .next { t with pc := n.vector, cyc := t.cyc + 20 } := by
  rw [takeInterrupt, h, andThen_next]
  rfl

theorem takeInterrupt_fault {n : IntSource} {s : State} {f : Fault} (h : push16 s.pc (s.acknowledge n) = .fault f) :
    takeInterrupt n s = .fault f := by
  rw [takeInterrupt, h, andThen_fault]

/-! ### The check, R459, R461 and R464 -/

theorem checkInterrupts_dispatch {s : State} {n : IntSource} (hime : s.ime = true) (hwait : s.imePending = false)
    (hfirst : firstPending s.pending = some n) : checkInterrupts s = takeInterrupt n s := by
  simp [checkInterrupts, hime, hwait, hfirst]

/-- Where nothing may be dispatched, something pending ends a halt. -/
theorem checkInterrupts_masked {s : State} (h : (s.ime && !s.imePending) = false) :
    checkInterrupts s = .next { s with halted := s.halted && decide (s.pending = 0#5) } := by
  rw [checkInterrupts, if_neg (by simp [h])]
  split
  case isTrue wakes =>
    obtain ⟨-, hp⟩ : s.halted = true ∧ s.pending ≠ 0#5 := by simpa using wakes
    simp [hp]
  case isFalse stays =>
    have kept : (s.halted && decide (s.pending = 0#5)) = s.halted := by simpa using stays
    rw [kept]

/-- Whatever `ime` is. -/
theorem checkInterrupts_idle {s : State} (h : s.pending = 0#5) : checkInterrupts s = .next s := by
  simp [checkInterrupts, h]

/-- Settles O13: the bit picks its source by `firstPending_eq_some`, and the dispatch is the push from the acknowledged
state, whose core registers `push16_core` gives. -/
theorem dispatchTakesLowestInterrupt : Obligations.DispatchTakesLowestInterrupt := by
  unfold Obligations.DispatchTakesLowestInterrupt
  intro s n hn hime hwait hie hif hlow a
  obtain ⟨src, rfl⟩ := IntSource.exists_bit_eq hn
  have first : firstPending s.pending = some src :=
    firstPending_eq_some (by simp [State.pending, hie, hif]) (by simpa [State.pending] using hlow)
  rw [checkInterrupts_dispatch hime hwait first]
  refine ⟨fun p hp => ?_, fun f hf => takeInterrupt_fault hf⟩
  obtain ⟨hsp, hregs, hflags, hime', hhalted, hwait', hcyc⟩ := push16_core hp
  exact ⟨_, takeInterrupt_next hp, by rw [hcyc]; rfl, hsp, hregs, hflags, hime', hhalted, hwait'.trans hwait⟩

/-- Settles O14: with `ime` clear or `imePending` set the check is masked; otherwise nothing is pending. -/
theorem checkWithoutDispatch : Obligations.CheckWithoutDispatch := by
  unfold Obligations.CheckWithoutDispatch
  rintro s (nothing | hime | hwait)
  · rw [checkInterrupts_idle nothing]
    simp [nothing]
  · exact checkInterrupts_masked (by simp [hime])
  · exact checkInterrupts_masked (by simp [hwait])

end Sys2Proof.Machine
end

section
/-! PROOF. The decoder and the encoder, 30_encoding.md R160 to R169: decoding undoes encoding for every well-formed
instruction, and encoding undoes decoding for every sequence of bytes that is long enough. -/

namespace Sys2Proof

/-! ### Decoding what was encoded -/

@[simp] theorem wordBytes_append (hi lo : Byte) : wordBytes (hi ++ lo) = [lo, hi] := by
  simp only [wordBytes, List.cons.injEq, and_true]
  exact ⟨Machine.loByte_word hi lo, Machine.hiByte_word hi lo⟩

/-- An opcode with a 16-bit operand reads the operand back from its two bytes. -/
theorem decode_wordOperand {op : Byte} {form : Word → Instr} (nn : Word) (rest : List Byte)
    (hlen : instrLength op = 3) (h : ∀ b1 b2, decodeBytes op b1 b2 = form (b2 ++ b1)) :
    decode (op :: wordBytes nn ++ rest) = .ok (form nn, rest) := by
  have joined : (nn.extractLsb' 8 8 ++ nn.extractLsb' 0 8 : Word) = nn := Machine.word_bytes nn
  simp [decode, wordBytes, hlen, h, joined]

/-- Settles O3: an instruction without an operand or with an 8-bit one is read back byte by byte, one with a 16-bit
operand by `decode_wordOperand`, and the bare byte 0xCB is not well-formed. -/
theorem decodeReadsEncodedInstruction : Obligations.DecodeReadsEncodedInstruction := by
  unfold Obligations.DecodeReadsEncodedInstruction
  intro i rest hwf
  cases i
  case prefixCB => cases hwf
  case ldBCD16 nn | ldAtA16SP nn | ldDED16 nn | ldHLD16 nn | ldSPD16 nn | jpNZA16 nn | jpA16 nn | callNZA16 nn |
      jpZA16 nn | callZA16 nn | callA16 nn | jpNCA16 nn | callNCA16 nn | jpCA16 nn | callCA16 nn | ldAtA16A nn |
      ldAAtA16 nn =>
    exact decode_wordOperand nn rest rfl fun _ _ => rfl
  all_goals rfl

/-! ### Encoding what was decoded -/

theorem encode_decodePrefixed : ∀ op2 : Byte, encode (decodePrefixed op2) = [0xCB#8, op2] := by decide

theorem wellFormed_decodePrefixed : ∀ op2 : Byte, (decodePrefixed op2).wellFormed = true := by decide

theorem encode_decodeX0 (y z : Fin 8) (b1 b2 : Byte) :
    encode (decodeX0 y z b1 (b2 ++ b1)) =
      [BitVec.ofNat 8 (8 * y + z), b1, b2].take (instrLength (BitVec.ofNat 8 (8 * y + z))) := by
  have word := wordBytes_append b2 b1
  fin_cases z <;> fin_cases y <;> first | rfl | exact congrArg _ word

theorem encode_decodeX1 (y z : Fin 8) :
    encode (decodeX1 y z) = [BitVec.ofNat 8 (0x40 + 8 * y + z)] ∧ instrLength (BitVec.ofNat 8 (0x40 + 8 * y + z)) = 1 := by
  fin_cases z <;> fin_cases y <;> exact ⟨rfl, rfl⟩

theorem encode_decodeX2 (y z : Fin 8) :
    encode (decodeX2 y z) = [BitVec.ofNat 8 (0x80 + 8 * y + z)] ∧ instrLength (BitVec.ofNat 8 (0x80 + 8 * y + z)) = 1 := by
  fin_cases z <;> fin_cases y <;> exact ⟨rfl, rfl⟩

theorem encode_decodeX3 (y z : Fin 8) (b1 b2 : Byte) :
    encode (decodeX3 y z b1 (b2 ++ b1)) =
      [BitVec.ofNat 8 (0xC0 + 8 * y + z), b1, b2].take (instrLength (BitVec.ofNat 8 (0xC0 + 8 * y + z))) := by
  have word := wordBytes_append b2 b1
  match z with
  | 0 | 1 | 2 | 4 | 5 | 6 | 7 => fin_cases y <;> first | rfl | exact congrArg _ word
  | 3 =>
    match y with
    | 1 => exact encode_decodePrefixed b1
    | 0 => exact congrArg _ word
    | 2 | 3 | 4 | 5 | 6 | 7 => rfl

/-- The encoding of a decoded instruction is the bytes it was decoded from, as many as its first byte says. -/
theorem encode_decodeBytes (op b1 b2 : Byte) :
    encode (decodeBytes op b1 b2) = [op, b1, b2].take (instrLength op) := by
  have fields := ofNat_fields op
  unfold decodeBytes
  split <;> rename_i hx <;> rw [hx] at fields
  · have front : BitVec.ofNat 8 (8 * (fieldY op).val + (fieldZ op).val) = op := by simpa using fields
    rw [encode_decodeX0, front]
  · have front : BitVec.ofNat 8 (0x40 + 8 * (fieldY op).val + (fieldZ op).val) = op := fields
    obtain ⟨bytes, len⟩ := encode_decodeX1 (fieldY op) (fieldZ op)
    rw [front] at bytes len
    simp [bytes, len]
  · have front : BitVec.ofNat 8 (0x80 + 8 * (fieldY op).val + (fieldZ op).val) = op := fields
    obtain ⟨bytes, len⟩ := encode_decodeX2 (fieldY op) (fieldZ op)
    rw [front] at bytes len
    simp [bytes, len]
  · have front : BitVec.ofNat 8 (0xC0 + 8 * (fieldY op).val + (fieldZ op).val) = op := fields
    rw [encode_decodeX3, front]

/-- The decoder yields no bare byte 0xCB. -/
theorem wellFormed_decodeBytes (op b1 b2 : Byte) : (decodeBytes op b1 b2).wellFormed = true := by
  unfold decodeBytes
  generalize fieldY op = y
  generalize fieldZ op = z
  split
  · fin_cases z <;> fin_cases y <;> rfl
  · fin_cases z <;> fin_cases y <;> rfl
  · fin_cases z <;> fin_cases y <;> rfl
  · match z with
    | 0 | 1 | 2 | 4 | 5 | 6 | 7 => fin_cases y <;> rfl
    | 3 =>
      match y with
      | 1 => exact wellFormed_decodePrefixed b1
      | 0 | 2 | 3 | 4 | 5 | 6 | 7 => rfl

theorem instrLength_cases (op : Byte) : instrLength op = 1 ∨ instrLength op = 2 ∨ instrLength op = 3 := by
  unfold instrLength
  split_ifs <;> simp

/-- Settles O4: the length of the first byte and the number of bytes at hand leave one arm of `decode`, and
`encode_decodeBytes` gives back the bytes it took. -/
theorem decodeIsTotal : Obligations.DecodeIsTotal := by
  unfold Obligations.DecodeIsTotal
  intro op rest
  have decoded (b1 b2 : Byte) := And.intro (wellFormed_decodeBytes op b1 b2) (encode_decodeBytes op b1 b2)
  rcases instrLength_cases op with len | len | len <;> rw [len] at decoded ⊢
  · refine ⟨fun h => by omega, fun _ => ⟨_, ?_, decoded 0 0⟩⟩
    simp [decode, len]
  · match rest with
    | [] => exact ⟨fun _ => by simp [decode, len], fun h => absurd h (by decide)⟩
    | b1 :: rest' => exact ⟨fun h => absurd h (by simp), fun _ => ⟨_, by simp [decode, len], decoded b1 0⟩⟩
  · match rest with
    | [] => exact ⟨fun _ => by simp [decode, len], fun h => absurd h (by decide)⟩
    | [b1] => exact ⟨fun _ => by simp [decode, len], fun h => absurd h (by simp)⟩
    | b1 :: b2 :: rest' => exact ⟨fun h => absurd h (by simp), fun _ => ⟨_, by simp [decode, len], decoded b1 b2⟩⟩

/-! ### The opcodes of the families -/

theorem encode_regFamilies (y : Fin 8) (r : Reg8) (n : Byte) (hr : Reg8.ofField y = some r) :
    encode (Instr.incReg r) = [BitVec.ofNat 8 (0x04 + 8 * y)] ∧
      encode (Instr.decReg r) = [BitVec.ofNat 8 (0x05 + 8 * y)] ∧
      encode (Instr.ldRegImm r n) = [BitVec.ofNat 8 (0x06 + 8 * y), n] ∧
      encode (Instr.ldRegHL r) = [BitVec.ofNat 8 (0x46 + 8 * y)] ∧
      encode (Instr.ldHLReg r) = [BitVec.ofNat 8 (0x70 + y)] := by
  fin_cases y <;> cases hr <;> exact ⟨rfl, rfl, rfl, rfl, rfl⟩

theorem encode_ldRegReg (y z : Fin 8) (r q : Reg8) (hr : Reg8.ofField y = some r) (hq : Reg8.ofField z = some q) :
    encode (Instr.ldRegReg r q) = [BitVec.ofNat 8 (0x40 + 8 * y + z)] := by
  fin_cases y <;> cases hr <;> fin_cases z <;> cases hq <;> rfl

/-- The families with an operation or a bit number and a register. -/
theorem encode_opRegFamilies (y z : Fin 8) (r : Reg8) (hr : Reg8.ofField z = some r) :
    encode (Instr.aluReg (AluOp.ofField y) r) = [BitVec.ofNat 8 (0x80 + 8 * y + z)] ∧
      encode (Instr.rotReg (RotOp.ofField y) r) = [0xCB#8, BitVec.ofNat 8 (8 * y + z)] ∧
      encode (Instr.bitReg y r) = [0xCB#8, BitVec.ofNat 8 (0x40 + 8 * y + z)] ∧
      encode (Instr.resReg y r) = [0xCB#8, BitVec.ofNat 8 (0x80 + 8 * y + z)] ∧
      encode (Instr.setReg y r) = [0xCB#8, BitVec.ofNat 8 (0xC0 + 8 * y + z)] := by
  fin_cases z <;> cases hr <;> fin_cases y <;> exact ⟨rfl, rfl, rfl, rfl, rfl⟩

/-- Settles O6: the register families by the lemmas above; each of the others has the few members its field selects,
and `encode` writes the bytes of each out. -/
theorem opcodesFollowTheFields : Obligations.OpcodesFollowTheFields := by
  unfold Obligations.OpcodesFollowTheFields
  intro y z p cc n nn
  refine ⟨fun r hr => ?_, fun r hr => encode_opRegFamilies y z r hr, ?_⟩
  · obtain ⟨inc, dec, imm, load, store⟩ := encode_regFamilies y r n hr
    exact ⟨inc, dec, imm, load, store, fun q hq => encode_ldRegReg y z r q hr hq⟩
  · refine ⟨?_, ?_, ?_, ?_, ?_, ?_, ?_, ?_, ?_, ?_, ?_, ?_, ?_, ?_, ?_, ?_, ?_⟩
    iterate 7 fin_cases y <;> rfl
    iterate 6 fin_cases p <;> rfl
    iterate 4 fin_cases cc <;> rfl

/-- Settles O7: each word is decoded by evaluation. -/
theorem sampleWordsDecode : Obligations.SampleWordsDecode :=
  ⟨rfl, rfl, rfl, rfl, rfl, rfl, rfl, rfl⟩

end Sys2Proof
end

section
/-! PROOF. Fetching and the phases of a step, 60_exceptions.md R452 to R455: the bytes at pc that are the encoding of an
instruction are fetched as that instruction, and what a step does that fetches none. -/

namespace Sys2Proof

/-- A decoding that uses up all its bytes has taken as many as the opcode says, and reads each operand byte. -/
theorem decodeBytes_of_decode {op : Byte} {rest : List Byte} {i : Instr} (h : decode (op :: rest) = .ok (i, [])) :
    rest.length + 1 = instrLength op ∧ decodeBytes op (rest.getD 0 0) (rest.getD 1 0) = i := by
  rcases instrLength_cases op with len | len | len <;> rw [len]
  · simp only [decode, len] at h
    obtain ⟨rfl, rfl⟩ : decodeBytes op 0 0 = i ∧ rest = [] := by simpa using h
    exact ⟨rfl, rfl⟩
  · match rest with
    | [] => simp [decode, len] at h
    | b1 :: rest' =>
      obtain ⟨rfl, rfl⟩ : decodeBytes op b1 0 = i ∧ rest' = [] := by simpa [decode, len] using h
      exact ⟨rfl, rfl⟩
  · match rest with
    | [] => simp [decode, len] at h
    | [b1] => simp [decode, len] at h
    | b1 :: b2 :: rest' =>
      obtain ⟨rfl, rfl⟩ : decodeBytes op b1 b2 = i ∧ rest' = [] := by simpa [decode, len] using h
      exact ⟨rfl, rfl⟩

end Sys2Proof

namespace Sys2Proof.Machine

/-! ### Fetching the bytes of an instruction, 30_encoding.md R170 -/

/-- The state after the first `k` bytes of the instruction at pc are fetched. -/
def State.afterBytes (s : State) (k : Nat) : State :=
  { s with opAddr := s.pc, pc := s.pc + BitVec.ofNat 16 k, draws := s.draws + k }

theorem State.sameBus_afterBytes (s : State) (k : Nat) : s.sameBus (s.afterBytes k) :=
  ⟨rfl, rfl, rfl, rfl, rfl, rfl, rfl, rfl, rfl, rfl, rfl, rfl⟩

/-- The byte the `k`-th fetch of the instruction at pc yields. -/
def State.codeByte (s : State) (k : Nat) : Byte :=
  readByte (s.pc + BitVec.ofNat 16 k) { s with draws := s.draws + k }

theorem fetch8_afterBytes {s : State} {k : Nat} (hl : s.haltBugLatch = false)
    (hf : readFault (s.pc + BitVec.ofNat 16 k) s = none) :
    fetch8 (s.afterBytes k) = .ok (s.codeByte k) (s.afterBytes (k + 1)) := by
  have pcNext : s.pc + BitVec.ofNat 16 k + 1 = s.pc + BitVec.ofNat 16 (k + 1) := by
    rw [BitVec.ofNat_add, BitVec.add_assoc]; rfl
  have byte : readByte (s.pc + BitVec.ofNat 16 k) (s.afterBytes k) = s.codeByte k :=
    readByte_congr (s := { s with draws := s.draws + k }) (s.sameBus_afterBytes k) rfl _
  have fetched := fetch8_ok (s := s.afterBytes k) ((readFault_congr (s.sameBus_afterBytes k) _).trans hf) hl
  rw [fetched]
  exact congr (congrArg Access.ok byte) (by simp only [State.afterBytes, pcNext, Nat.add_assoc])

/-- With its bytes readable at pc, a well-formed instruction is fetched. -/
theorem fetchInstr_encode {s : State} {i : Instr} (hl : s.haltBugLatch = false) (hwf : i.wellFormed = true)
    (h : ∀ k, k < (encode i).length →
      readFault (s.pc + BitVec.ofNat 16 k) s = none ∧ s.codeByte k = (encode i).getD k 0) :
    fetchInstr s = .ok i (s.afterBytes (encode i).length) := by
  have back := decodeReadsEncodedInstruction i [] hwf
  rw [List.append_nil] at back
  match hbytes : encode i with
  | [] => rw [hbytes] at back; cases back
  | op :: rest =>
    rw [hbytes] at back h
    obtain ⟨len, decoded⟩ := decodeBytes_of_decode back
    have fetch (k : Nat) (hk : k < (op :: rest).length) :
        fetch8 (s.afterBytes k) = .ok ((op :: rest).getD k 0) (s.afterBytes (k + 1)) := by
      rw [fetch8_afterBytes hl (h k hk).1, (h k hk).2]
    have start : { s with opAddr := s.pc } = s.afterBytes 0 := by simp [State.afterBytes]
    have first : fetch8 (s.afterBytes 0) = .ok op (s.afterBytes 1) := fetch 0 (by simp)
    rcases instrLength_cases op with l | l | l <;> rw [l] at len
    · match rest, len with
      | [], _ => simpa [fetchInstr, start, first, l, fetchOperands] using decoded
    · match rest, len with
      | [b1], _ =>
        have second : fetch8 (s.afterBytes 1) = .ok b1 (s.afterBytes 2) := fetch 1 (by simp)
        simpa [fetchInstr, start, first, second, l, fetchOperands] using decoded
    · match rest, len with
      | [b1, b2], _ =>
        have second : fetch8 (s.afterBytes 1) = .ok b1 (s.afterBytes 2) := fetch 1 (by simp)
        have third : fetch8 (s.afterBytes 2) = .ok b2 (s.afterBytes 3) := fetch 2 (by simp)
        simpa [fetchInstr, start, first, second, third, l, fetchOperands] using decoded

/-- Settles O8: the fetch by `fetchInstr_encode`; the phases after it are `runStep`'s own. -/
theorem stepRunsDecodedInstruction : Obligations.StepRunsDecodedInstruction := by
  unfold Obligations.StepRunsDecodedInstruction
  intro s i b hs hh hl hwf h
  have fetched : fetchInstr b = .ok i (b.afterBytes (encode i).length) := by
    refine fetchInstr_encode (by simpa [b] using hl) hwf fun k hk => ?_
    simpa [b, State.codeByte] using h k hk
  have halted : b.halted = false := by simpa [b] using hh
  have after : b.afterBytes (encode i).length =
      { b with pc := s.pc + BitVec.ofNat 16 (encode i).length, opAddr := s.pc,
               draws := s.draws + (encode i).length } := by simp [State.afterBytes, b]
  rw [← after]
  have executed : executePhase b = exec i (b.afterBytes (encode i).length) := by
    simp [executePhase, halted, fetched]
  simp only [step, hs, runStep]
  exact congrArg (andThen · _) executed

/-- Settles O9: a fetch is the read at pc, then `State.advancePc`. -/
theorem fetchReadsByteAtPc : Obligations.FetchReadsByteAtPc := by
  unfold Obligations.FetchReadsByteAtPc
  refine fun s => ⟨fun r hr => ?_, fun hf => ⟨fun hl => fetch8_ok hf hl, fun hl => ?_⟩⟩
  · simp [fetch8, memRead_fault hr]
  · simp [fetch8, memRead_ok hf, State.advancePc, State.countRead, hl]

/-! ### Steps without an instruction -/

theorem State.withFault_self {s : State} {r : FaultReason} (h : s.fault = some r) : { s with fault := some r } = s := by
  rw [← h]

/-- The state a fault leaves records it. -/
theorem faultLeft_raiseFault (r : FaultReason) (s : State) : faultLeft (raiseFault r s) = { s with fault := some r } := by
  cases r <;> rfl

theorem step_of_fault {s : State} {r : FaultReason} (h : s.fault = some r) : step s = .fault (raiseFault r s) := by
  simp [step, h]

/-- Settles O10: a faulted core answers its fault, a halted one goes on after the 4 cycles of its idle phase. -/
theorem stepsWithoutInstruction : Obligations.StepsWithoutInstruction := by
  unfold Obligations.StepsWithoutInstruction
  refine fun s => ⟨fun r hr => ⟨step_of_fault hr, ?_⟩, fun hs hh => ?_⟩
  · rw [faultLeft_raiseFault, State.withFault_self hr]
  · have idle : executePhase (beginStep s) = .next { beginStep s with cyc := 4 } := if_pos (by simpa using hh)
    simp only [step, hs, runStep, idle, andThen_next]
    rfl

/-! ### The delay of EI, 60_exceptions.md R455 -/

theorem beginStep_of_pending {s : State} (h : s.imePending = true) :
    (beginStep s).ime = true ∧ (beginStep s).imePending = false := by simp [beginStep, promote, h]

theorem beginStep_of_not_pending {s : State} (h : s.imePending = false) :
    (beginStep s).ime = s.ime ∧ (beginStep s).imePending = false := by simp [beginStep, promote, h]

/-- Settles O12: after EI and after DI the check is masked, so it dispatches nothing; the next step promotes EI's
pending enable. -/
theorem enableIsDelayedDisableIsNot : Obligations.EnableIsDelayedDisableIsNot := by
  unfold Obligations.EnableIsDelayedDisableIsNot
  refine fun s => ⟨⟨_, _, rfl, checkInterrupts_masked ?_, rfl, rfl, rfl, rfl, rfl, ?_⟩,
    ⟨_, _, rfl, checkInterrupts_masked rfl, rfl, rfl, rfl, rfl, rfl⟩, beginStep_of_not_pending⟩
  · simp
  · exact beginStep_of_pending rfl

end Sys2Proof.Machine
end

section
/-! PROOF. How an instruction and a step end: with the cycle count of the table (70_reset_and_hazards.md R620), or with a
fault that is recorded in the state it leaves (60_exceptions.md R473), never refused. One lemma per shared operation; the
instructions are met in the order of the decoder's fields. -/

namespace Sys2Proof.Machine

/-- A fault as `raiseFault` makes it. -/
def Raised (f : Fault) : Prop := ∃ r s, f = raiseFault r s

/-- The result is a next state whose cycle count satisfies `C`, or a raised fault. -/
def Ends (C : Nat → Prop) (r : Result) : Prop :=
  match r with
  | .next t => C t.cyc
  | .fault f => Raised f
  | .refused _ => False

/-- A read that faults raises its fault. -/
def AccessRaises {α : Type} (x : Access α) : Prop := ∀ f, x = .fault f → Raised f

/-- Any cycle count. -/
def AnyCost (_ : Nat) : Prop := True

variable {C : Nat → Prop}

theorem Ends.imp {C C' : Nat → Prop} {r : Result} (h : Ends C r) (hc : ∀ n, C n → C' n) : Ends C' r := by
  cases r with
  | next t => exact hc _ h
  | fault f => exact h
  | refused q => exact h

theorem Ends.any {r : Result} (h : Ends C r) : Ends AnyCost r := h.imp fun _ _ => trivial

theorem ends_raiseFault (r : FaultReason) (s : State) : Ends C (.fault (raiseFault r s)) := ⟨r, s, rfl⟩

theorem ends_spend {n : Nat} {s : State} (h : C n) : Ends C (.next (s.spend n)) := h

theorem ends_andThen {r : Result} {k : State → Result} (h : Ends AnyCost r) (hk : ∀ t, Ends C (k t)) :
    Ends C (andThen r k) := by
  cases r with
  | next t => exact hk t
  | fault f => exact h
  | refused q => exact h

theorem ends_withValue {α : Type} {x : Access α} {k : α → State → Result} (h : AccessRaises x)
    (hk : ∀ v t, Ends C (k v t)) : Ends C (withValue x k) := by
  cases x with
  | ok v t => exact hk v t
  | fault f => exact h f rfl

/-! ### Memory and the stack -/

theorem memRead_raises (addr : Word) (s : State) : AccessRaises (memRead addr s) := by
  intro f h
  unfold memRead at h
  split at h
  · cases h; exact ⟨_, _, rfl⟩
  · cases h

theorem busRead_raises (addr : Word) (s : State) : AccessRaises (busRead addr s) := by
  intro f h
  unfold busRead at h
  split at h
  · cases h; exact ⟨_, _, rfl⟩
  · cases h

theorem memWrite_ends (addr : Word) (v : Byte) (s : State) : Ends AnyCost (memWrite addr v s) := by
  unfold memWrite
  split
  · exact ends_raiseFault _ s
  · trivial

theorem push16_ends (v : Word) (s : State) : Ends AnyCost (push16 v s) :=
  ends_andThen (memWrite_ends _ _ _) fun _ => memWrite_ends _ _ _

theorem pop8_raises (s : State) : AccessRaises (pop8 s) := by
  intro f h
  unfold pop8 at h
  split at h
  · cases h
  · rename_i hr
    cases h
    exact memRead_raises _ _ f hr

theorem pop16_raises (s : State) : AccessRaises (pop16 s) := by
  intro f h
  unfold pop16 at h
  split at h
  · rename_i hr
    cases h
    exact pop8_raises _ f hr
  · split at h
    · rename_i hr
      cases h
      exact pop8_raises _ f hr
    · cases h

theorem withOperand_ends {addr : Word} {n : Nat} {k : Byte → State → State} {s : State} (h : C n) :
    Ends C (withOperand addr n k s) := ends_withValue (memRead_raises addr s) fun _ _ => ends_spend h

theorem storeOperand_ends {addr : Word} {v : Byte} {n : Nat} {k : State → State} {s : State} (h : C n) :
    Ends C (storeOperand addr v n k s) := ends_andThen (memWrite_ends addr v s) fun _ => ends_spend h

theorem modifyHL_ends {f : Byte → Byte × Flags} {s : State} {n : Nat} (h : C n) : Ends C (modifyHL f s n) :=
  ends_withValue (memRead_raises s.hl s) fun _ _ => storeOperand_ends h

/-! ### The meanings -/

theorem storeSp_ends {nn : Word} {s : State} (h : C 20) : Ends C (storeSp nn s) :=
  ends_andThen (memWrite_ends _ _ _) fun _ => storeOperand_ends h

theorem pushPair_ends {p : StackPair} {s : State} (h : C 16) : Ends C (pushPair p s) :=
  ends_andThen (push16_ends _ _) fun _ => ends_spend h

theorem popPair_ends {p : StackPair} {s : State} (h : C 12) : Ends C (popPair p s) :=
  ends_withValue (pop16_raises s) fun _ _ => ends_spend h

theorem jumpTo_ends {v : Word} {n : Nat} {s : State} (h : C n) : Ends C (jumpTo v n s) := h

theorem jumpIf_ends {cc : Cond} {v : Word} {s : State} (taken : C 16) (not : C 12) : Ends C (jumpIf cc v s) := by
  unfold jumpIf
  split
  · exact jumpTo_ends taken
  · exact ends_spend not

theorem relativeIf_ends {cc : Cond} {e : Byte} {s : State} (taken : C 12) (not : C 8) : Ends C (relativeIf cc e s) := by
  unfold relativeIf
  split
  · exact jumpTo_ends taken
  · exact ends_spend not

theorem callTo_ends {v : Word} {n : Nat} {s : State} (h : C n) : Ends C (callTo v n s) :=
  ends_andThen (push16_ends _ _) fun _ => jumpTo_ends h

theorem callIf_ends {cc : Cond} {v : Word} {s : State} (taken : C 24) (not : C 12) : Ends C (callIf cc v s) := by
  unfold callIf
  split
  · exact callTo_ends taken
  · exact ends_spend not

theorem returnTo_ends {n : Nat} {s : State} (h : C n) : Ends C (returnTo n s) :=
  ends_withValue (pop16_raises s) fun _ _ => jumpTo_ends h

theorem returnIf_ends {cc : Cond} {s : State} (taken : C 20) (not : C 8) : Ends C (returnIf cc s) := by
  unfold returnIf
  split
  · exact returnTo_ends taken
  · exact ends_spend not

theorem reti_ends {s : State} (h : C 16) : Ends C (execReti s) :=
  ends_andThen (ends_withValue (pop16_raises s) fun _ _ => trivial) fun _ => ends_spend h

theorem switchSpeed_ends {s : State} (h : C 4) : Ends C (switchSpeed s) := by
  unfold switchSpeed
  split
  · exact ends_spend h
  · exact ends_raiseFault _ s

theorem illegalOpcode_ends {op : Byte} {s : State} : Ends C (illegalOpcode op s) := ends_raiseFault _ s

/-- The count of a prefixed opcode by its operand: 8 for a register, 12 for BIT of (HL), 16 for the rest. -/
theorem prefixedCycles_eq : ∀ op2 : Byte, Config.prefixedCycles op2 =
    match fieldX op2, Reg8.ofField (fieldZ op2) with
    | _, some _ => 8
    | 1, none => 12
    | _, none => 16 := by decide

theorem prefixed_ends {op2 : Byte} {s : State} (h : C (Config.prefixedCycles op2)) : Ends C (prefixed op2 s) := by
  rw [prefixedCycles_eq] at h
  unfold prefixed
  split <;> rename_i hx hz <;> simp only [hx, hz] at h
  case h_2 | h_6 | h_8 => exact modifyHL_ends h
  case h_4 => exact withOperand_ends h
  all_goals exact ends_spend h

/-- The decoder and the bare byte 0xCB read the second byte's fields alike. -/
theorem exec_decodePrefixed (op2 : Byte) (s : State) : exec (decodePrefixed op2) s = prefixed op2 s := by
  unfold decodePrefixed prefixed
  generalize fieldX op2 = x
  generalize Reg8.ofField (fieldZ op2) = register
  match x, register with
  | 0, some _ => exact exec_rotReg ..
  | 0, none => exact exec_rotHL ..
  | 1, some _ => exact exec_bitReg ..
  | 1, none => exact exec_bitHL ..
  | 2, some _ => exact exec_resReg ..
  | 2, none => exact exec_resHL ..
  | 3, some _ => exact exec_setReg ..
  | 3, none => exact exec_setHL ..

/-! ### The instructions, by the fields of 30_encoding.md R161 to R165 -/

/-- One of the two counts of a base opcode, 70_reset_and_hazards.md R620. -/
abbrev BaseCost (op : Byte) (n : Nat) : Prop :=
  (n = (Config.baseCycles op).1 ∨ n = (Config.baseCycles op).2) ∧ 0 < n ∧ n % 4 = 0

/-- A count the table gives an instruction whose first two bytes are `op` and `op2`. -/
def TableCost (op op2 : Byte) (n : Nat) : Prop :=
  (n = (Config.baseCycles op).1 ∨ n = (Config.baseCycles op).2 ∨ (op = 0xCB#8 ∧ n = Config.prefixedCycles op2)) ∧
    0 < n ∧ n % 4 = 0

theorem BaseCost.table {op : Byte} {n : Nat} (op2 : Byte) (h : BaseCost op n) : TableCost op op2 n := by
  obtain ⟨first | second, bounds⟩ := h
  · exact ⟨.inl first, bounds⟩
  · exact ⟨.inr (.inl second), bounds⟩

theorem tableCost_prefixed (op2 : Byte) : TableCost 0xCB#8 op2 (Config.prefixedCycles op2) := by
  have bounds : ∀ op2 : Byte, 0 < Config.prefixedCycles op2 ∧ Config.prefixedCycles op2 % 4 = 0 := by decide
  exact ⟨.inr (.inr ⟨rfl, rfl⟩), bounds op2⟩

theorem decodeX0_ends (y z : Fin 8) (n : Byte) (nn : Word) (s : State) :
    Ends (BaseCost (BitVec.ofNat 8 (8 * y + z))) (exec (decodeX0 y z n nn) s) := by
  match z with
  | 0 =>
    match y with
    | 0 => exact ends_spend (by decide)
    | 1 => exact storeSp_ends (by decide)
    | 2 => exact switchSpeed_ends (by decide)
    | 3 => exact jumpTo_ends (by decide)
    | 4 | 5 | 6 | 7 => exact relativeIf_ends (by decide) (by decide)
  | 1 => fin_cases y <;> exact ends_spend (by decide)
  | 2 =>
    match y with
    | 0 | 2 | 4 | 6 => exact storeOperand_ends (by decide)
    | 1 | 3 | 5 | 7 => exact withOperand_ends (by decide)
  | 3 => fin_cases y <;> exact ends_spend (by decide)
  | 4 | 5 =>
    match y with
    | 6 => exact modifyHL_ends (by decide)
    | 0 | 1 | 2 | 3 | 4 | 5 | 7 => exact ends_spend (by decide)
  | 6 =>
    match y with
    | 6 => exact storeOperand_ends (by decide)
    | 0 | 1 | 2 | 3 | 4 | 5 | 7 => exact ends_spend (by decide)
  | 7 => fin_cases y <;> exact ends_spend (by decide)

theorem decodeX1_ends (y z : Fin 8) (s : State) :
    Ends (BaseCost (BitVec.ofNat 8 (0x40 + 8 * y + z))) (exec (decodeX1 y z) s) := by
  have cost : ∀ y z : Fin 8, BaseCost (BitVec.ofNat 8 (0x40 + 8 * y + z))
      (if (Reg8.ofField y).isSome = (Reg8.ofField z).isSome then 4 else 8) := by decide
  have table := cost y z
  unfold decodeX1
  split <;> rename_i hy hz <;> simp only [hy, hz] at table
  · rw [exec_ldRegReg]; exact ends_spend table
  · rw [exec_ldRegHL]; exact withOperand_ends table
  · rw [exec_ldHLReg]; exact storeOperand_ends table
  · exact ends_spend table

theorem decodeX2_ends (y z : Fin 8) (s : State) :
    Ends (BaseCost (BitVec.ofNat 8 (0x80 + 8 * y + z))) (exec (decodeX2 y z) s) := by
  have cost : ∀ y z : Fin 8, BaseCost (BitVec.ofNat 8 (0x80 + 8 * y + z))
      (if (Reg8.ofField z).isSome then 4 else 8) := by decide
  have table := cost y z
  unfold decodeX2
  split <;> rename_i hz <;> simp only [hz] at table
  · rw [exec_aluReg]; exact ends_spend table
  · rw [exec_aluHL]; exact withOperand_ends table

theorem decodeX3_ends (y z : Fin 8) (n : Byte) (nn : Word) (s : State) :
    Ends (TableCost (BitVec.ofNat 8 (0xC0 + 8 * y + z)) n) (exec (decodeX3 y z n nn) s) := by
  match z with
  | 0 =>
    match y with
    | 0 | 1 | 2 | 3 => exact returnIf_ends (BaseCost.table n (by decide)) (BaseCost.table n (by decide))
    | 4 => exact storeOperand_ends (BaseCost.table n (by decide))
    | 6 => exact withOperand_ends (BaseCost.table n (by decide))
    | 5 | 7 => exact ends_spend (BaseCost.table n (by decide))
  | 1 =>
    match y with
    | 0 | 2 | 4 | 6 => exact popPair_ends (BaseCost.table n (by decide))
    | 1 => exact returnTo_ends (BaseCost.table n (by decide))
    | 3 => exact reti_ends (BaseCost.table n (by decide))
    | 5 | 7 => exact ends_spend (BaseCost.table n (by decide))
  | 2 =>
    match y with
    | 0 | 1 | 2 | 3 => exact jumpIf_ends (BaseCost.table n (by decide)) (BaseCost.table n (by decide))
    | 4 | 5 => exact storeOperand_ends (BaseCost.table n (by decide))
    | 6 | 7 => exact withOperand_ends (BaseCost.table n (by decide))
  | 3 =>
    match y with
    | 0 => exact jumpTo_ends (BaseCost.table n (by decide))
    | 1 =>
      change Ends _ (exec (decodePrefixed n) s)
      rw [exec_decodePrefixed]
      exact prefixed_ends (tableCost_prefixed n)
    | 2 | 3 | 4 | 5 => exact illegalOpcode_ends
    | 6 | 7 => exact ends_spend (BaseCost.table n (by decide))
  | 4 =>
    match y with
    | 0 | 1 | 2 | 3 => exact callIf_ends (BaseCost.table n (by decide)) (BaseCost.table n (by decide))
    | 4 | 5 | 6 | 7 => exact illegalOpcode_ends
  | 5 =>
    match y with
    | 0 | 2 | 4 | 6 => exact pushPair_ends (BaseCost.table n (by decide))
    | 1 => exact callTo_ends (BaseCost.table n (by decide))
    | 3 | 5 | 7 => exact illegalOpcode_ends
  | 6 => fin_cases y <;> exact ends_spend (BaseCost.table n (by decide))
  | 7 => fin_cases y <;> exact callTo_ends (BaseCost.table n (by decide))

theorem decodeBytes_ends (op b1 b2 : Byte) (s : State) : Ends (TableCost op b1) (exec (decodeBytes op b1 b2) s) := by
  have fields := ofNat_fields op
  unfold decodeBytes
  split <;> rename_i hx <;> rw [hx] at fields
  · have front : BitVec.ofNat 8 (8 * (fieldY op).val + (fieldZ op).val) = op := by simpa using fields
    exact (front ▸ decodeX0_ends ..).imp fun _ => BaseCost.table b1
  · have front : BitVec.ofNat 8 (0x40 + 8 * (fieldY op).val + (fieldZ op).val) = op := fields
    exact (front ▸ decodeX1_ends ..).imp fun _ => BaseCost.table b1
  · have front : BitVec.ofNat 8 (0x80 + 8 * (fieldY op).val + (fieldZ op).val) = op := fields
    exact (front ▸ decodeX2_ends ..).imp fun _ => BaseCost.table b1
  · have front : BitVec.ofNat 8 (0xC0 + 8 * (fieldY op).val + (fieldZ op).val) = op := fields
    have ends := decodeX3_ends (fieldY op) (fieldZ op) b1 (b2 ++ b1) s
    rwa [front] at ends

/-- A well-formed instruction is the decoding of its own bytes. -/
theorem decodeBytes_encode {i : Instr} (h : i.wellFormed = true) :
    ∃ b2, decodeBytes ((encode i).getD 0 0) ((encode i).getD 1 0) b2 = i := by
  have back := decodeReadsEncodedInstruction i [] h
  rw [List.append_nil] at back
  match hbytes : encode i with
  | [] => rw [hbytes] at back; cases back
  | op :: rest =>
    rw [hbytes] at back
    exact ⟨_, (decodeBytes_of_decode back).2⟩

/-- Every instruction, the bare byte 0xCB with its operand included. -/
theorem exec_ends (i : Instr) (s : State) :
    Ends (TableCost ((encode i).getD 0 0) ((encode i).getD 1 0)) (exec i s) := by
  cases hwf : i.wellFormed
  · cases i
    case prefixCB op2 => exact prefixed_ends (tableCost_prefixed op2)
    all_goals cases hwf
  · obtain ⟨b2, decoded⟩ := decodeBytes_encode hwf
    have ends := decodeBytes_ends ((encode i).getD 0 0) ((encode i).getD 1 0) b2 s
    rwa [decoded] at ends

/-- Settles O35: the counts `exec_ends` gives are the table's. -/
theorem cyclesFollowTheTable : Obligations.CyclesFollowTheTable := by
  unfold Obligations.CyclesFollowTheTable
  intro i s t ht
  have ends := exec_ends i s
  rw [ht] at ends
  exact ends

/-! ### The step -/

theorem fetch8_raises (s : State) : AccessRaises (fetch8 s) := by
  intro f h
  unfold fetch8 at h
  split at h
  · cases h
  · rename_i hr
    cases h
    exact memRead_raises _ _ f hr

theorem fetchOperands_raises (n : Nat) (s : State) : AccessRaises (fetchOperands n s) := by
  intro f h
  unfold fetchOperands at h
  split at h
  · cases h
  · split at h
    · rename_i hr
      cases h
      exact fetch8_raises _ f hr
    · split at h
      · cases h
      · split at h
        · rename_i hr
          cases h
          exact fetch8_raises _ f hr
        · cases h

theorem fetchInstr_raises (s : State) : AccessRaises (fetchInstr s) := by
  intro f h
  unfold fetchInstr at h
  split at h
  · rename_i hr
    cases h
    exact fetch8_raises _ f hr
  · split at h
    · rename_i hr
      cases h
      exact fetchOperands_raises _ _ f hr
    · cases h

theorem executePhase_ends (s : State) : Ends AnyCost (executePhase s) := by
  unfold executePhase
  split
  · trivial
  · exact ends_withValue (fetchInstr_raises s) fun i t => (exec_ends i t).any

theorem checkInterrupts_ends (s : State) : Ends AnyCost (checkInterrupts s) := by
  unfold checkInterrupts
  split
  · split
    · exact ends_andThen (push16_ends _ _) fun _ => trivial
    · trivial
  · split <;> trivial

theorem oamDmaStep_ends (s : State) : Ends AnyCost (oamDmaStep s) := by
  unfold oamDmaStep
  split
  · trivial
  · exact ends_withValue (busRead_raises _ s) fun _ _ => trivial

theorem vramCopy_ends (x : VramXfer) (s : State) : Ends AnyCost (vramCopy x s) := by
  unfold vramCopy
  split
  · trivial
  · exact ends_withValue (busRead_raises _ s) fun _ _ => trivial

theorem vramBurst_ends (n : Nat) (s : State) : Ends AnyCost (vramBurst n s) := by
  induction n generalizing s with
  | zero => trivial
  | succ k ih =>
    unfold vramBurst
    split
    · trivial
    · exact ends_andThen (vramCopy_ends _ s) ih

theorem vramDmaStep_ends (s : State) : Ends AnyCost (vramDmaStep s) := by
  unfold vramDmaStep
  split
  · trivial
  · split
    · exact vramBurst_ends _ s
    · unfold vramHblank
      split
      · split
        · exact vramCopy_ends _ s
        · trivial
      · trivial

theorem deviceCycle_ends (s : State) : Ends AnyCost (deviceCycle s) :=
  ends_andThen (oamDmaStep_ends _) vramDmaStep_ends

theorem deviceCycles_ends (n : Nat) (s : State) : Ends AnyCost (deviceCycles n s) := by
  induction n generalizing s with
  | zero => trivial
  | succ k ih => exact ends_andThen (deviceCycle_ends s) ih

theorem step_ends (s : State) : Ends AnyCost (step s) := by
  unfold step
  split
  · exact ends_raiseFault _ s
  · exact ends_andThen (executePhase_ends _) fun t => ends_andThen (checkInterrupts_ends t) fun u =>
      ends_andThen (deviceCycles_ends _ _) fun _ => trivial

/-! ### A next state holds no fault -/

theorem noFault_coreClosed : CoreClosed fun s => s.fault = none where
  core _ _ _ _ _ _ _ _ _ _ _ h := h
  request _ _ h := h
  unlatch _ h := h
  latch _ _ h := h
  speed _ _ h := h
  write _ _ _ _ h := (writeByte_fault ..).trans h

theorem noFault_deviceClosed : DeviceClosed fun s => s.fault = none where
  pad _ _ h := h
  timer _ _ h := h
  ppu s h := by rw [ppuStep_frame]; exact h
  oam _ _ _ _ h := h
  vramEnd _ h := h
  vramCopy _ _ _ _ _ _ h := h
  vramLine _ _ _ h := h
  account _ _ _ h := h

/-- A raised fault is the one its state records. -/
theorem Raised.recorded {f : Fault} (h : Raised f) :
    ∃ r, f = raiseFault r (faultLeft f) ∧ (faultLeft f).fault = some r := by
  obtain ⟨r, s, rfl⟩ := h
  exact ⟨r, by cases r <;> rfl, by rw [faultLeft_raiseFault]⟩

/-- Settles O11: a step that goes on began without a fault, which every change keeps; one that faults raised its fault;
none is refused. -/
theorem faultsAreRecorded : Obligations.FaultsAreRecorded := by
  unfold Obligations.FaultsAreRecorded
  intro s
  have ends := step_ends s
  refine ⟨fun t ht => ?_, fun f hf => ?_, fun q hq => ?_⟩
  · have start : s.fault = none := by
      cases hs : s.fault with
      | none => rfl
      | some r => rw [step_of_fault hs] at ht; cases ht
    exact step_keeps noFault_coreClosed noFault_deviceClosed start t ht
  · rw [hf] at ends
    exact Raised.recorded ends
  · rw [hq] at ends
    exact ends.elim

end Sys2Proof.Machine
end

section
/-! PROOF. The invariants: soundness of the state and what no step changes. `step_keeps` reduces each to the elementary
changes; of these the write through the address map and the transfers' copies need an argument. -/

namespace Sys2Proof.Machine

/-! ### What a write reaches -/

theorem extLoc_ne_io (c : Cart) (off : Nat) (r : IoReg) : extLoc c off ≠ .io r := by
  unfold extLoc
  split <;> simp

/-- Only the I/O page holds I/O registers. -/
theorem ioLoc_of_locate {s : State} {addr : Word} {r : IoReg} (h : locate s addr = .io r) :
    ioLoc s.launch.colorMode addr.toNat = .io r := by
  unfold locate at h
  dsimp only at h
  split_ifs at h
  · exact absurd h (extLoc_ne_io _ _ r)
  · exact h

/-- The monochrome console has no colour-only register, 60_exceptions.md R472. -/
theorem locate_io_mono {s : State} {addr : Word} {r : IoReg} (hm : s.launch.colorMode = false)
    (h : locate s addr = .io r) : r ≠ .key1 ∧ r ≠ .vbk ∧ r ≠ .hdma5 := by
  have rows : ∀ row ∈ ioMap, row.colourOnly = false → row.reg ≠ .key1 ∧ row.reg ≠ .vbk ∧ row.reg ≠ .hdma5 := by
    decide
  have found := ioLoc_of_locate h
  rw [hm] at found
  unfold ioLoc at found
  split at found
  · rename_i row hrow
    cases found
    have listed := List.mem_of_find?_eq_some hrow
    have shown := List.find?_some hrow
    obtain ⟨-, base⟩ : row.addr = addr.toNat ∧ row.colourOnly = false := by simpa using shown
    exact rows row listed base
  · split_ifs at found

/-- A write is a write to one I/O register, or it leaves the devices alone. -/
theorem poke_io_or_devices (addr : Word) (v : Byte) (s : State) :
    (∃ r, locate s addr = .io r ∧ poke addr v s = ioWrite r v s) ∨
      ((poke addr v s).ppu = s.ppu ∧ (poke addr v s).dma = s.dma ∧ (poke addr v s).speedArmed = s.speedArmed) := by
  unfold poke
  split
  case h_7 r hr => exact .inl ⟨r, hr, rfl⟩
  all_goals exact .inr ⟨rfl, rfl, rfl⟩

/-- A write through the address map changes of the cartridge at most the controller's registers. -/
theorem poke_cart (addr : Word) (v : Byte) (s : State) :
    (poke addr v s).cart = s.cart ∨ (poke addr v s).cart = { s.cart with mapper := s.cart.mapper.control addr v } ∨
      ∃ r, (poke addr v s).cart = { s.cart with mapper := s.cart.mapper.setRtc r v } := by
  unfold poke
  split
  case h_1 => exact .inr (.inl rfl)
  case h_4 r _ => exact .inr (.inr ⟨r, rfl⟩)
  case h_7 r _ => cases r <;> exact .inl rfl
  all_goals exact .inl rfl

/-! ### The parts of `State.sound` under a write -/

theorem Ppu.writeLcdc_sound {p : Ppu} (v : Byte) (h : p.sound) : (p.writeLcdc v).sound := by
  obtain ⟨hly, hdot, hx, hx', hmode⟩ := h
  unfold Ppu.writeLcdc
  split
  case isTrue off =>
    have lcd : v.getLsbD 7 = false := by simpa using off
    exact ⟨by simp, by simp, hx, hx', by
      rw [if_neg (by rw [Ppu.lcdOn, lcd]; decide)]; exact ⟨rfl, rfl, rfl⟩⟩
  case isFalse on =>
    have lcd : v.getLsbD 7 = true := by simpa using on
    split
    case isTrue => exact ⟨by simp, by simp, hx, hx', by simp [Ppu.lcdOn, lcd, modeAt]⟩
    case isFalse was =>
      have before : p.lcdOn = true := by simpa using was
      rw [before] at hmode
      exact ⟨hly, hdot, hx, hx', by simpa [Ppu.lcdOn, lcd] using hmode⟩

theorem ioWrite_ppuSound (r : IoReg) (v : Byte) {s : State} (h : s.ppu.sound) : (ioWrite r v s).ppu.sound := by
  cases r
  case lcdc => exact Ppu.writeLcdc_sound v h
  all_goals exact h

/-- The write of a page below 0xE0 to FF46 starts a sound transfer, 60_exceptions.md R490. -/
theorem ioWrite_oamSound {r : IoReg} {v : Byte} {s : State} (hv : r = .dma → v.toNat < 0xE0) (h : s.dma.oamSound) :
    (ioWrite r v s).dma.oamSound := by
  cases r
  case dma => exact ⟨hv rfl, fun x hx => by cases hx; exact ⟨Nat.zero_lt_succ _, hv rfl⟩⟩
  case hdma5 =>
    simp only [ioWrite, Dma.writeHdma5]
    split
    · split <;> exact h
    · exact h
  all_goals exact h

/-- The transfer an HDMA5 write starts is sound, 60_exceptions.md R493. -/
theorem hdmaStart_sound (g : Dma) (v : Byte) :
    0 < (hdmaStart g v).remaining.toNat ∧ (hdmaStart g v).remaining.toNat ≤ 0x800 ∧
      0x8000 ≤ (hdmaStart g v).dst.toNat ∧ (hdmaStart g v).dst.toNat ≤ 0xA000 ∧ (hdmaStart g v).lineCount ≤ 16 := by
  have blocks : (v.extractLsb' 0 7).toNat < 2 ^ 7 := BitVec.isLt _
  have offset : (0#3 ++ g.hdma3.extractLsb' 0 5 ++ g.hdma4.extractLsb' 4 4 ++ 0#4 : BitVec 16).toNat < 0x2000 := by
    have h3 : (g.hdma3.extractLsb' 0 5).toNat < 2 ^ 5 := BitVec.isLt _
    have h4 : (g.hdma4.extractLsb' 4 4).toNat < 2 ^ 4 := BitVec.isLt _
    simp only [toNat_append_eq_add, BitVec.toNat_ofNat]
    omega
  have dst : (hdmaStart g v).dst.toNat =
      0x8000 + (0#3 ++ g.hdma3.extractLsb' 0 5 ++ g.hdma4.extractLsb' 4 4 ++ 0#4 : BitVec 16).toNat := by
    simp only [hdmaStart, BitVec.toNat_add, BitVec.toNat_ofNat]
    omega
  have remaining : (hdmaStart g v).remaining.toNat = ((v.extractLsb' 0 7).toNat + 1) * 16 := by
    simp only [hdmaStart, BitVec.ofNat_eq_ofNat, BitVec.toNat_mul, BitVec.toNat_add, BitVec.toNat_setWidth, BitVec.toNat_ofNat]
    omega
  exact ⟨by omega, by omega, by omega, by omega, Nat.zero_le _⟩

theorem writeHdma5_vramSound {g : Dma} (v : Byte) : (g.writeHdma5 v).vramSound := by
  unfold Dma.writeHdma5
  split
  · split
    · exact fun x hx => nomatch hx
    · exact fun x hx => by cases hx; exact hdmaStart_sound g v
  · exact fun x hx => by cases hx; exact hdmaStart_sound g v

theorem ioWrite_vramSound (r : IoReg) (v : Byte) {s : State} (h : s.dma.vramSound) : (ioWrite r v s).dma.vramSound := by
  cases r
  case hdma5 => exact writeHdma5_vramSound v
  all_goals exact h

theorem ioWrite_monoSound {r : IoReg} {v : Byte} {s : State}
    (hr : s.launch.colorMode = false → r ≠ .key1 ∧ r ≠ .vbk ∧ r ≠ .hdma5) (h : s.monoSound) :
    (ioWrite r v s).monoSound := by
  intro hm
  rw [ioWrite_launch] at hm
  obtain ⟨key1, vbk, hdma5⟩ := hr hm
  have mono := h hm
  cases r
  case key1 => exact absurd rfl key1
  case vbk => exact absurd rfl vbk
  case hdma5 => exact absurd rfl hdma5
  case lcdc =>
    simp only [ioWrite, Ppu.writeLcdc]
    split
    · exact mono
    · split <;> exact mono
  all_goals exact mono

theorem fixMbc2_ne_zero (b : BitVec 4) : fixMbc2 b ≠ 0#4 := by
  unfold fixMbc2
  split
  · decide
  · assumption

theorem fixMbc3_ne_zero (b : BitVec 5) : fixMbc3 b ≠ 0#5 := by
  unfold fixMbc3
  split
  · decide
  · assumption

theorem control_sound {m : Mapper} (addr : Word) (v : Byte) (h : m.sound) : (m.control addr v).sound := by
  cases m with
  | romOnly => trivial
  | mbc1 => rw [control_mbc1]; trivial
  | mbc2 bank en =>
    rw [control_mbc2]
    simp only [Mapper.sound]
    split
    · exact fixMbc2_ne_zero _
    · exact h
  | mbc3 bank sel en rtc =>
    rw [control_mbc3]
    simp only [Mapper.sound]
    split
    · exact fixMbc3_ne_zero _
    · exact h
  | mbc5 => rw [control_mbc5]; trivial

theorem setRtc_sound {m : Mapper} (r : RtcReg) (v : Byte) (h : m.sound) : (m.setRtc r v).sound := by
  cases m <;> exact h

/-- A write that does not fault keeps a state sound. -/
theorem poke_sound {addr : Word} {v : Byte} {s : State} (hv : locate s addr = .io .dma → v.toNat < 0xE0)
    (h : s.sound) : (poke addr v s).sound := by
  obtain ⟨wf, ppu, oam, vram, mono, latch, mapper⟩ := h
  have cart : (poke addr v s).cart.mapper.sound := by
    rcases poke_cart addr v s with e | e | ⟨r, e⟩ <;> rw [e]
    · exact mapper
    · exact control_sound addr v mapper
    · exact setRtc_sound r v mapper
  have latched : (poke addr v s).latchSound := by
    unfold State.latchSound
    rw [poke_launch, poke_haltBugLatch]
    exact latch
  rcases poke_io_or_devices addr v s with ⟨r, hr, e⟩ | ⟨hp, hd, hs⟩
  · refine ⟨poke_wf wf, ?_, ?_, ?_, ?_, latched, cart⟩ <;> rw [e]
    · exact ioWrite_ppuSound r v ppu
    · exact ioWrite_oamSound (fun hdma => hv (hdma ▸ hr)) oam
    · exact ioWrite_vramSound r v vram
    · exact ioWrite_monoSound (fun hm => locate_io_mono hm hr) mono
  · refine ⟨poke_wf wf, by rwa [hp], by rwa [hd], by rwa [hd], ?_, latched, cart⟩
    unfold State.monoSound
    rw [poke_launch, poke_doubleSpeed, hs, hp, hd]
    exact mono

theorem writeByte_sound {addr : Word} {v : Byte} {s : State} (hf : writeFault addr v s = none) (h : s.sound) :
    (writeByte addr v s).sound := by
  unfold writeByte
  split
  · exact h
  · rename_i free
    refine poke_sound (fun hdma => ?_) h
    by_contra big
    simp [writeFault, free, hdma, Nat.le_of_not_lt big] at hf

theorem sound_coreClosed : CoreClosed State.sound where
  core _ _ _ _ _ _ _ _ _ _ _ h := h
  request _ _ h := h
  unlatch _ h := by
    obtain ⟨wf, ppu, oam, vram, mono, -, mapper⟩ := h
    exact ⟨wf, ppu, oam, vram, mono, fun _ => rfl, mapper⟩
  latch _ hbug h := by
    obtain ⟨wf, ppu, oam, vram, mono, -, mapper⟩ := h
    exact ⟨wf, ppu, oam, vram, mono, fun hno => absurd (hbug.symm.trans hno) (by decide), mapper⟩
  speed _ hcolor h := by
    obtain ⟨wf, ppu, oam, vram, -, latch, mapper⟩ := h
    exact ⟨wf, ppu, oam, vram, fun hm => absurd (hcolor.symm.trans hm) (by decide), latch, mapper⟩
  write _ _ _ hf h := writeByte_sound hf h

/-! ### The devices -/

theorem Ppu.step_sound {p : Ppu} (oam : Nat → Byte) (h : p.sound) : (p.step oam).sound := by
  cases on : p.lcdOn
  · rw [Ppu.step_off p oam on]; exact h
  · exact (Ppu.step_on p oam h on).1

theorem Ppu.step_vbk (p : Ppu) (oam : Nat → Byte) : (p.step oam).vbk = p.vbk := by
  unfold Ppu.step Ppu.settle Ppu.fixXfer Ppu.tick
  split_ifs <;> rfl

theorem OamXfer.advance_eq_some {x y : OamXfer} (h : x.advance = some y) :
    y.page = x.page ∧ y.index = x.index + 1 ∧ y.index < 160 := by
  unfold OamXfer.advance at h
  split at h
  · cases h
  · cases h
    exact ⟨rfl, rfl, by simp only; omega⟩

/-- A byte copied keeps the transfer's bounds, 60_exceptions.md R495, R497. -/
theorem VramXfer.advance_sound {x y : VramXfer} (hx : 0 < x.remaining.toNat ∧ x.remaining.toNat ≤ 0x800 ∧
      0x8000 ≤ x.dst.toNat ∧ x.dst.toNat ≤ 0xA000 ∧ x.lineCount ≤ 16) (hend : x.exhausted = false)
    (hline : x.kind = .hblank → x.lineCount < 16) (h : x.advance = some y) :
    0 < y.remaining.toNat ∧ y.remaining.toNat ≤ 0x800 ∧ 0x8000 ≤ y.dst.toNat ∧ y.dst.toNat ≤ 0xA000 ∧
      y.lineCount ≤ 16 := by
  obtain ⟨rem, rem', dst, dst', line⟩ := hx
  have inVram : x.dst.toNat ≤ 0x9FFF := by simpa [VramXfer.exhausted] using (Bool.or_eq_false_iff.1 hend).2
  unfold VramXfer.advance at h
  split at h
  · cases h
  · rename_i more
    cases h
    have more' : x.remaining.toNat ≠ 1 := fun e => more (BitVec.eq_of_toNat_eq e)
    refine ⟨by bv_omega, by bv_omega, by bv_omega, by bv_omega, ?_⟩
    dsimp only
    split
    · have := hline ‹_›; omega
    · exact line

theorem sound_deviceClosed : DeviceClosed State.sound where
  pad _ _ h := h
  timer _ _ h := h
  ppu s h := by
    obtain ⟨wf, ppu, oam, vram, mono, latch, mapper⟩ := h
    rw [ppuStep_frame]
    refine ⟨wf, Ppu.step_sound _ ppu, oam, vram, fun hm => ?_, latch, mapper⟩
    obtain ⟨speed, armed, vbk, noVram⟩ := mono hm
    exact ⟨speed, armed, (Ppu.step_vbk _ _).trans vbk, noVram⟩
  oam s x v hx h := by
    obtain ⟨wf, ppu, ⟨reg, oam⟩, vram, mono, latch, mapper⟩ := h
    refine ⟨Memory.wf_write _ _ wf, ppu, ⟨reg, fun y hy => ?_⟩, vram, mono, latch, mapper⟩
    obtain ⟨page, -, index⟩ := OamXfer.advance_eq_some hy
    exact ⟨index, page ▸ (oam x hx).2⟩
  vramEnd s h := by
    obtain ⟨wf, ppu, oam, -, mono, latch, mapper⟩ := h
    refine ⟨wf, ppu, oam, fun y hy => (nomatch hy), fun hm => ?_, latch, mapper⟩
    obtain ⟨speed, armed, vbk, -⟩ := mono hm
    exact ⟨speed, armed, vbk, rfl⟩
  vramCopy s x v hx hend hline h := by
    obtain ⟨wf, ppu, oam, vram, mono, latch, mapper⟩ := h
    refine ⟨Memory.wf_write _ _ wf, ppu, oam, fun y hy => VramXfer.advance_sound (vram x hx) hend hline hy, fun hm => ?_,
      latch, mapper⟩
    obtain ⟨-, -, -, noVram⟩ := mono hm
    exact absurd (hx.symm.trans noVram) (by simp)
  vramLine s x hx h := by
    obtain ⟨wf, ppu, oam, vram, mono, latch, mapper⟩ := h
    refine ⟨wf, ppu, oam, fun y hy => ?_, fun hm => ?_, latch, mapper⟩
    · obtain ⟨rem, rem', dst, dst', -⟩ := vram x hx
      cases hy
      exact ⟨rem, rem', dst, dst', Nat.zero_le _⟩
    · obtain ⟨-, -, -, noVram⟩ := mono hm
      exact absurd (hx.symm.trans noVram) (by simp)
  account _ _ _ h := h

/-- Settles O58: the elementary changes of the core and of the devices keep a state sound. -/
theorem stepKeepsSound : Obligations.StepKeepsSound := by
  unfold Obligations.StepKeepsSound
  exact fun s t h ht => step_keeps sound_coreClosed sound_deviceClosed h t ht

end Sys2Proof.Machine
end

section
/-! PROOF. The base case of the invariant, and what no step changes. -/

namespace Sys2Proof.Machine

/-! ### Reset and launch -/

theorem resetPpu_sound : resetPpu.sound := by
  refine ⟨by decide, by decide, by decide, by decide, ?_⟩
  decide

theorem initial_sound (c : Controller) : c.initial.sound := by
  cases c
  case mbc2 => exact (by decide : 1#4 ≠ 0#4)
  case mbc3 => exact (by decide : 1#5 ≠ 0#5)
  all_goals trivial

theorem cart_sound {hd : Header} {c : Cart} (h : hd.cart = .ok c) : c.mapper.sound := by
  unfold Header.cart at h
  split at h
  · cases h
  · split at h
    · cases h
    · cases h
      exact initial_sound _

/-- At a launch no transfer runs and the colour-only state is clear. -/
theorem launchWith_sound (x : LaunchInput) {c : Cart} (h : c.mapper.sound) : (launchWith x c).sound :=
  ⟨wf_launchMemory x, resetPpu_sound, ⟨Nat.zero_lt_succ _, fun _ hx => nomatch hx⟩, fun _ hx => (nomatch hx),
    fun _ => ⟨rfl, rfl, rfl, rfl⟩, fun _ => rfl, h⟩

/-- Settles O59: `State.reset` field by field, a launched machine by `launchWith_sound`; a refused cartridge only sets
the fault record. -/
theorem resetIsSound : Obligations.ResetIsSound := by
  unfold Obligations.ResetIsSound
  refine ⟨⟨rfl, resetPpu_sound, ⟨by decide, fun _ hx => nomatch hx⟩, fun _ hx => (nomatch hx),
    fun _ => ⟨rfl, rfl, rfl, rfl⟩, fun _ => rfl, trivial⟩, fun x => ?_⟩
  unfold launchState
  split
  · rename_i c hc
    exact launchWith_sound x (cart_sound hc)
  · exact launchWith_sound x (c := State.reset.cart) trivial

/-! ### What no step changes -/

/-- The kind of a bank controller. -/
def Mapper.kind (m : Mapper) : Controller :=
  match m with
  | .romOnly => .romOnly
  | .mbc1 .. => .mbc1
  | .mbc2 .. => .mbc2
  | .mbc3 .. => .mbc3
  | .mbc5 .. => .mbc5

theorem Mapper.kind_eq_iff (m : Mapper) :
    (m.kind = .romOnly ↔ m = .romOnly) ∧ (m.kind = .mbc1 ↔ ∃ a b c d, m = .mbc1 a b c d) ∧
      (m.kind = .mbc2 ↔ ∃ a b, m = .mbc2 a b) ∧ (m.kind = .mbc3 ↔ ∃ a b c d, m = .mbc3 a b c d) ∧
      (m.kind = .mbc5 ↔ ∃ a b c, m = .mbc5 a b c) := by
  cases m <;> simp [Mapper.kind]

theorem control_kind (m : Mapper) (addr : Word) (v : Byte) : (m.control addr v).kind = m.kind := by
  cases m with
  | romOnly => rfl
  | mbc1 => rw [control_mbc1]; rfl
  | mbc2 => rw [control_mbc2]; rfl
  | mbc3 => rw [control_mbc3]; rfl
  | mbc5 => rw [control_mbc5]; rfl

theorem setRtc_kind (m : Mapper) (r : RtcReg) (v : Byte) : (m.setRtc r v).kind = m.kind := by
  cases m <;> rfl

/-- `t` has the constants of `s`: the launch parameters, the ROM image and the cartridge's make. -/
structure State.SameConstants (s t : State) : Prop where
  launch : t.launch = s.launch
  rom : ∀ off, t.cell (Key.rom off) = s.cell (Key.rom off)
  romBanks : t.cart.romBanks = s.cart.romBanks
  ramBytes : t.cart.ramBytes = s.cart.ramBytes
  kind : t.cart.mapper.kind = s.cart.mapper.kind

theorem State.SameConstants.refl (s : State) : s.SameConstants s := ⟨rfl, fun _ => rfl, rfl, rfl, rfl⟩

/-- A cell below the ROM image's may be stored to. -/
theorem State.SameConstants.setCell {s t : State} (h : s.SameConstants t) {key : Nat} (v : Byte) (hk : key < 0x1000000) :
    s.SameConstants (t.setCell key v) := by
  refine { h with rom := fun off => ?_ }
  rw [← h.rom off]
  exact Memory.read_write_other v (by unfold Key.rom; omega)

/-- No write reaches the ROM image. -/
theorem storeKey_ne_rom (addr : Word) (s : State) (off : Nat) : storeKey addr s ≠ some (Key.rom off) := by
  have bg := s.ppu.bcps.index.isLt
  have obj := s.ppu.ocps.index.isLt
  have fits := locate_keyFits s addr
  intro he
  unfold storeKey at he
  split at he <;> first
    | cases he; done
    | (rename_i hl; rw [hl] at fits; injection he with he; simp only [Loc.keyFits] at fits; unfold Key.rom at he; omega)
    | (injection he with he; simp only [Key.bgPal, Key.objPal, Key.rom] at he; omega)

theorem writeByte_sameConstants {s t : State} (addr : Word) (v : Byte) (h : s.SameConstants t) :
    s.SameConstants (writeByte addr v t) := by
  have cells (off : Nat) := writeByte_cell_other (v := v) (storeKey_ne_rom addr t off)
  have cart : (writeByte addr v t).cart.romBanks = t.cart.romBanks ∧
      (writeByte addr v t).cart.ramBytes = t.cart.ramBytes ∧
      (writeByte addr v t).cart.mapper.kind = t.cart.mapper.kind := by
    unfold writeByte
    split
    · exact ⟨rfl, rfl, rfl⟩
    · rcases poke_cart addr v t with e | e | ⟨r, e⟩ <;> rw [e]
      · exact ⟨rfl, rfl, rfl⟩
      · exact ⟨rfl, rfl, control_kind ..⟩
      · exact ⟨rfl, rfl, setRtc_kind ..⟩
  obtain ⟨banks, bytes, kind⟩ := cart
  exact ⟨(writeByte_launch ..).trans h.launch, fun off => (cells off).trans (h.rom off), banks.trans h.romBanks,
    bytes.trans h.ramBytes, kind.trans h.kind⟩

theorem constants_coreClosed (s : State) : CoreClosed fun t => t.sound ∧ s.SameConstants t where
  core _ _ _ _ _ _ _ _ _ _ _ h := ⟨h.1, { h.2 with }⟩
  request _ _ h := ⟨h.1, { h.2 with }⟩
  unlatch _ h := ⟨sound_coreClosed.unlatch _ h.1, { h.2 with }⟩
  latch _ hbug h := ⟨sound_coreClosed.latch _ hbug h.1, { h.2 with }⟩
  speed _ hcolor h := ⟨sound_coreClosed.speed _ hcolor h.1, { h.2 with }⟩
  write _ addr v hf h := ⟨writeByte_sound hf h.1, writeByte_sameConstants addr v h.2⟩

/-- The transfers store to OAM and to VRAM, far below the ROM image. -/
theorem constants_deviceClosed (s : State) : DeviceClosed fun t => t.sound ∧ s.SameConstants t where
  pad _ _ h := ⟨h.1, { h.2 with }⟩
  timer _ _ h := ⟨h.1, { h.2 with }⟩
  ppu t h := ⟨sound_deviceClosed.ppu t h.1, by rw [ppuStep_frame]; exact { h.2 with }⟩
  oam t x v hx h := by
    obtain ⟨-, -, ⟨-, oam⟩, -⟩ := h.1
    have low : Key.oam x.index < 0x1000000 := by have := (oam x hx).1; unfold Key.oam; omega
    exact ⟨sound_deviceClosed.oam t x v hx h.1, { h.2.setCell v low with }⟩
  vramEnd t h := ⟨sound_deviceClosed.vramEnd t h.1, { h.2 with }⟩
  vramCopy t x v hx hend hline h := by
    have low : Key.vram t.vramBank (x.dst.toNat - 0x8000) < 0x1000000 := by
      have := x.dst.isLt; unfold Key.vram; split <;> omega
    exact ⟨sound_deviceClosed.vramCopy t x v hx hend hline h.1, { h.2.setCell v low with }⟩
  vramLine t x hx h := ⟨sound_deviceClosed.vramLine t x hx h.1, { h.2 with }⟩
  account _ _ _ h := ⟨h.1, { h.2 with }⟩

/-- Settles O60: the constants are kept together with soundness, which bounds the cells the transfers store to; the kind
of the controller says which constructor it is. -/
theorem stepKeepsConstants : Obligations.StepKeepsConstants := by
  unfold Obligations.StepKeepsConstants
  intro s t h ht
  obtain ⟨-, launch, rom, banks, bytes, kind⟩ :=
    step_keeps (constants_coreClosed s) (constants_deviceClosed s) ⟨h, .refl s⟩ t ht
  obtain ⟨s0, s1, s2, s3, s5⟩ := s.cart.mapper.kind_eq_iff
  obtain ⟨t0, t1, t2, t3, t5⟩ := t.cart.mapper.kind_eq_iff
  rw [← s0, ← s1, ← s2, ← s3, ← s5, ← t0, ← t1, ← t2, ← t3, ← t5, kind]
  exact ⟨launch, rom, banks, bytes, Iff.rfl, Iff.rfl, Iff.rfl, Iff.rfl, Iff.rfl⟩

end Sys2Proof.Machine
end

section
/-! PROOF. The shapes of a memory instruction, once per shared operation: a read, a store, a read-modify-write, a push and a
pop fault as their accesses do and otherwise complete with the effect written out; then the loads and stores of
40_load.md. -/

namespace Sys2Proof.Machine

variable {i : Instr} {s : State}

/-! ### The shared operations -/

/-- An instruction that reads one byte and then changes registers faults as the read does. -/
theorem readsByte_of_withOperand {addr : Word} {cycles : Nat} {k : Byte → State → State} {post : Byte → Prop}
    (h : exec i s = withOperand addr cycles k s)
    (hpost : ∀ v, exec i s = .next ((k v s.countRead).spend cycles) → post v) : ReadsByte i s addr post := by
  refine ⟨fun r hr => ?_, fun hr => hpost _ ?_⟩
  · rw [h, withOperand, memRead_fault hr, withValue_fault]
  · rw [h, withOperand, memRead_ok hr, withValue_ok]

theorem State.sameBus_core (s : State) (g : Regs) (f : Flags) (pc sp : Word) (cyc draws : Nat) :
    s.sameBus { s with regs := g, flags := f, pc := pc, sp := sp, cyc := cyc, draws := draws } :=
  ⟨rfl, rfl, rfl, rfl, rfl, rfl, rfl, rfl, rfl, rfl, rfl, rfl⟩

/-- A store keeps its frame when registers, flags, pc, sp and counters change besides, before or after. -/
theorem storeFrame_core {s s' t : State} {addr : Word} {v : Byte} (hs : s.sameBus s') (ht : (writeByte addr v s).sameBus t) :
    s'.storeFrame t addr := storeFrame_congr hs ht (writeByte_storeFrame addr v s)

/-- An instruction that stores one byte and then changes registers faults as the write does. -/
theorem storesByte_of_storeOperand {addr : Word} {v : Byte} {cycles : Nat} {k : State → State} {regs : Regs}
    (h : exec i s = storeOperand addr v cycles k s)
    (hk : ∀ u : State, u.regs = s.regs → (k u).spend cycles = { u with regs := regs, cyc := cycles }) :
    StoresByte i s addr v regs cycles := by
  refine ⟨fun r hr => ?_, fun hw => ⟨_, ?_, rfl, ?_⟩⟩
  · rw [h, storeOperand, memWrite_fault hr, andThen_fault]
  · rw [h, storeOperand, memWrite_next hw, andThen_next, hk _ (writeByte_regs ..)]
  · exact storeFrame_core (State.sameBus_core s _ _ _ _ _ _) (State.sameBus_core _ _ _ _ _ _ _)

/-- A store that changes no register. -/
theorem storesByte_of_storeOnly {addr : Word} {v : Byte} {cycles : Nat}
    (h : exec i s = storeOperand addr v cycles id s) : StoresByte i s addr v s.regs cycles :=
  storesByte_of_storeOperand h fun u hu => by rw [← hu]; rfl

/-- A read-modify-write at HL faults as the read or as the write does, the flags written last. -/
theorem modifiesByte_of_modifyHL {F : Byte → Byte × Flags} {f : Byte → Byte} {g : Byte → Flags} {cycles : Nat}
    (h : exec i s = modifyHL F s cycles) (hF : ∀ v, F v = (f v, g v)) : ModifiesByteAtHL i s f g cycles := by
  have bus : s.sameBus s.countRead := State.sameBus_core s _ _ _ _ _ _
  have read (hr : readFault s.hl s = none) : exec i s =
      storeOperand s.hl (f (readByte s.hl s)) cycles (fun u => u.setFlags (g (readByte s.hl s))) s.countRead := by
    simp only [h, modifyHL, memRead_ok hr, withValue_ok, hF]
  refine ⟨fun r hr => ?_, fun hr => ⟨fun r hw => ?_, fun hw => ⟨_, ?_, rfl, ?_⟩⟩⟩
  · rw [h, modifyHL, memRead_fault hr, withValue_fault]
  · rw [read hr, storeOperand, memWrite_fault ((writeFault_congr bus ..).trans hw), andThen_fault]
  · rw [read hr, storeOperand, memWrite_next ((writeFault_congr bus ..).trans hw), andThen_next]
    rfl
  · exact storeFrame_core (s := s.countRead) bus.symm (State.sameBus_core _ _ _ _ _ _ _)

/-- An instruction that pushes a word and goes on: the high byte below sp, then the low byte below it. -/
theorem pushesThen_of_push16 {w : Word} {k : State → Result} {pc : Word} {cycles : Nat}
    (h : exec i s = andThen (push16 w s) k)
    (hk : ∀ u : State, u.pc = s.pc → k u = .next { u with pc := pc, cyc := cycles }) :
    PushesThen i s (hiByte w) (loByte w) pc cycles := by
  unfold PushesThen
  intro s1 u s2
  have below : u.sp - 1 = s.sp - 2 := by
    rw [show u.sp = s.sp - 1 from writeByte_sp .., BitVec.sub_sub]; rfl
  have second : u.setSp (u.sp - 1) = s2 := by rw [below]; rfl
  have start : exec i s = andThen (andThen (memWrite (s.sp - 1) (hiByte w) s1) fun t =>
      memWrite (t.sp - 1) (loByte w) (t.setSp (t.sp - 1))) k := h
  have pushed (h1 : writeFault (s.sp - 1) (hiByte w) s1 = none) :
      exec i s = andThen (memWrite (s.sp - 2) (loByte w) s2) k := by
    rw [start, memWrite_next h1, andThen_next]
    change andThen (memWrite (u.sp - 1) _ (u.setSp (u.sp - 1))) k = _
    rw [second, below]
  refine ⟨fun r hr => ?_, fun h1 => ⟨fun r hr => ?_, fun h2 => ⟨_, ?_, rfl, ?_, ?_⟩⟩⟩
  · rw [start, memWrite_fault hr, andThen_fault, andThen_fault]
  · rw [pushed h1, memWrite_fault hr, andThen_fault]
  · rw [pushed h1, memWrite_next h2, andThen_next, hk]
    exact (writeByte_pc ..).trans (writeByte_pc ..)
  · exact storeFrame_core (s := s1) (State.sameBus_core s1 _ _ _ _ _ _) (State.sameBus_core u _ _ _ _ _ _)
  · exact storeFrame_core (s := s2) (State.sameBus_core s2 _ _ _ _ _ _) (State.sameBus_core _ _ _ _ _ _ _)

/-- An instruction that pops a word and goes on: the low byte at sp, then the high byte above it. -/
theorem popsThen_of_pop16 {k : Word → State → Result} {post : Byte → Byte → Prop}
    (h : exec i s = withValue (pop16 s) k)
    (hpost : ∀ hi lo, exec i s = k (word hi lo) { s with sp := s.sp + 2, draws := s.draws + 2 } → post hi lo) :
    PopsThen i s post := by
  unfold PopsThen
  intro u
  refine ⟨fun r hr => ?_, fun h1 => ⟨fun r hr => ?_, fun h2 => hpost _ _ ?_⟩⟩
  · rw [h, pop16, pop8, memRead_fault hr]
    rfl
  · have second : pop8 u = .fault (raiseFault r u) := by rw [pop8, memRead_fault hr]
    rw [h, pop16, pop8_ok h1]
    change withValue (match pop8 u with | .fault f => _ | .ok hi w => _) k = _
    rw [second]
    rfl
  · have second : pop8 u = .ok (readByte (s.sp + 1) u) (u.countRead.setSp (s.sp + 1 + 1)) := pop8_ok h2
    have above : s.sp + 1 + 1 = s.sp + 2 := by rw [BitVec.add_assoc]; rfl
    rw [h, pop16, pop8_ok h1]
    change withValue (match pop8 u with | .fault f => _ | .ok hi w => _) k = _
    rw [second, above]
    rfl

/-! ### The byte loads and stores, 40_load.md R201 to R215 -/

/-- Settles O15: a register load is `completes_of_setReg` with the flags as they are. -/
theorem registerLoads : Obligations.RegisterLoads := by
  unfold Obligations.RegisterLoads
  exact fun dst src n s => ⟨completes_of_setReg (exec_ldRegReg dst src s), completes_of_setReg (exec_ldRegImm dst n s)⟩

theorem completes_of_loadFrom {dst : Reg8} {addr : Word} {cycles : Nat} (h : exec i s = loadFrom dst addr cycles s) :
    ReadsByte i s addr fun v => Completes i s [dst] s.flags s.pc s.sp cycles 1 fun t => t.reg dst = v := by
  refine readsByte_of_withOperand h fun v hv => ?_
  refine ⟨_, hv, State.reg_setReg_same _ dst v, rfl, rfl, rfl, rfl, rfl, coreFrame_of (fun q hq => ?_) rfl⟩
  exact State.reg_setReg_other s.countRead dst q v (by simpa using hq)

/-- Settles O16: each load is `loadFrom` at its address. -/
theorem memoryLoads : Obligations.MemoryLoads := by
  unfold Obligations.MemoryLoads
  exact fun r n nn s => ⟨completes_of_loadFrom (exec_ldRegHL r s), completes_of_loadFrom rfl, completes_of_loadFrom rfl,
    completes_of_loadFrom rfl, completes_of_loadFrom rfl, completes_of_loadFrom rfl⟩

/-- Settles O17: each store is a `storeOperand` that changes no register. -/
theorem memoryStores : Obligations.MemoryStores := by
  unfold Obligations.MemoryStores
  exact fun r n nn s => ⟨storesByte_of_storeOnly (exec_ldHLReg r s), storesByte_of_storeOnly rfl,
    storesByte_of_storeOnly rfl, storesByte_of_storeOnly rfl, storesByte_of_storeOnly rfl, storesByte_of_storeOnly rfl,
    storesByte_of_storeOnly rfl⟩

/-! ### Post-modification, 40_load.md R216 to R219 -/

theorem completes_of_loadStep {d : Word} (h : exec i s = loadStep d s) :
    ReadsByte i s s.hl fun v =>
      Completes i s [.a, .h, .l] s.flags s.pc s.sp 8 1 fun t => t.regs.a = v ∧ t.hl = s.hl + d := by
  refine readsByte_of_withOperand h fun v hv => ?_
  refine ⟨_, hv, ⟨rfl, word_bytes (s.hl + d)⟩, rfl, rfl, rfl, rfl, rfl, coreFrame_of (fun q hq => ?_) rfl⟩
  obtain ⟨notA, notHL⟩ : q ≠ .a ∧ q ∉ pairHalves .hl := by simpa [pairHalves] using hq
  exact (State.reg_setPair_other _ .hl _ q notHL).trans (State.reg_setReg_other s.countRead .a q v notA)

theorem storesByte_of_storeStep {d : Word} (h : exec i s = storeStep d s) :
    StoresByte i s s.hl s.regs.a
      { s.regs with h := (s.hl + d).extractLsb' 8 8, l := (s.hl + d).extractLsb' 0 8 } 8 := by
  refine storesByte_of_storeOperand h fun u hu => ?_
  have hl : u.hl = s.hl := by unfold State.hl; rw [hu]
  simp only [hl, ← hu]
  rfl

/-- Settles O18: the access is at the old HL, and HL moves with the registers the shared operation changes after it. -/
theorem postModifiedAccesses : Obligations.PostModifiedAccesses := by
  unfold Obligations.PostModifiedAccesses
  intro s up down
  have downEq : down = s.hl + (-1) := BitVec.sub_eq_add_neg s.hl 1
  rw [downEq]
  exact ⟨completes_of_loadStep rfl, completes_of_loadStep rfl, storesByte_of_storeStep rfl, storesByte_of_storeStep rfl⟩

/-! ### The 16-bit loads, 40_load.md R220 to R222 -/

/-- LD dd,d16 writes one pair. -/
theorem completes_of_loadPair {p : RegPair} {nn : Word} {post : State → Prop} (h : exec i s = loadPair p nn s)
    (hpost : ∀ t, t.pair p = nn → post t) :
    Completes i s (pairHalves p) s.flags s.pc (if p = .sp then nn else s.sp) 12 0 post := by
  have kept : (s.setPair p nn).setFlags s.flags = s.setPair p nn := by cases p <;> rfl
  exact completes_of_setPair (by rw [kept, h, loadPair]) hpost

theorem word_halves {hi lo : Byte} {v : Word} (h : word hi lo = v) : hi = v.extractLsb' 8 8 ∧ lo = v.extractLsb' 0 8 := by
  subst h
  exact ⟨(hiByte_word hi lo).symm, (loByte_word hi lo).symm⟩

/-- Settles O19: the pairs by `completes_of_loadPair`; LD (a16),SP is a write followed by a store one address higher. -/
theorem wordLoads : Obligations.WordLoads := by
  unfold Obligations.WordLoads
  intro nn s hi lo
  refine ⟨completes_of_loadPair (p := .bc) rfl fun t ht => word_halves ht,
    completes_of_loadPair (p := .de) rfl fun t ht => word_halves ht,
    completes_of_loadPair (p := .hl) rfl fun t ht => word_halves ht,
    completes_of_loadPair (p := .sp) rfl fun _ _ => trivial,
    ⟨_, rfl, trivial, rfl, rfl, rfl, rfl, rfl, coreFrame_of (fun _ _ => rfl) rfl⟩, ?_⟩
  intro u
  have first (h1 : writeFault nn (s.sp.extractLsb' 0 8) s = none) :
      exec (.ldAtA16SP nn) s = storeOperand (nn + 1) (s.sp.extractLsb' 8 8) 20 id u := by
    change andThen (memWrite nn (s.sp.extractLsb' 0 8) s) _ = _
    rw [memWrite_next h1, andThen_next]
    rfl
  refine ⟨fun r hr => ?_, fun h1 => ⟨fun r hr => ?_, fun h2 => ⟨_, ?_, rfl, writeByte_storeFrame .., ?_⟩⟩⟩
  · change andThen (memWrite nn (s.sp.extractLsb' 0 8) s) _ = _
    rw [memWrite_fault hr, andThen_fault]
  · rw [first h1, storeOperand, memWrite_fault hr, andThen_fault]
  · rw [first h1, storeOperand, memWrite_next h2, andThen_next]
    rfl
  · exact storeFrame_core (State.sameBus_core u _ _ _ _ _ _) (State.sameBus_core _ _ _ _ _ _ _)

/-! ### The stack, 40_load.md R223 and R224 -/

theorem pushesThen_of_pushPair {p : StackPair} (h : exec i s = pushPair p s) :
    PushesThen i s (hiByte (s.stackPair p)) (loByte (s.stackPair p)) s.pc 16 :=
  pushesThen_of_push16 h fun u hu => by rw [← hu]; rfl

theorem completes_of_popPair {p : StackPair} {changed : List Reg8} {flags : Byte → Flags} {post : Byte → Byte → State → Prop}
    (h : exec i s = popPair p s)
    (hregs : ∀ (t : State) v q, q ∉ changed → (t.setStackPair p v).reg q = t.reg q)
    (hpost : ∀ hi lo (t : State), post hi lo ((t.setStackPair p (word hi lo)).spend 12))
    (hflags : ∀ hi lo, (s.setStackPair p (word hi lo)).flags = flags lo) :
    PopsThen i s fun hi lo => Completes i s changed (flags lo) s.pc (s.sp + 2) 12 2 (post hi lo) := by
  refine popsThen_of_pop16 h fun hi lo hv => ?_
  refine ⟨_, hv, hpost hi lo _, ?_, by simp, by simp, rfl, by simp, coreFrame_of (fun q hq => hregs _ _ q hq) ?_⟩
  · rw [← hflags hi lo]
    cases p <;> rfl
  · cases p <;> rfl

theorem Flags.toByte_eq (f : Flags) : f.toByte =
    ((if f.z then 0x80#8 else 0) ||| (if f.n then 0x40#8 else 0) ||| (if f.h then 0x20#8 else 0) |||
      (if f.cy then 0x10#8 else 0)) := by
  obtain ⟨z, n, h, cy⟩ := f
  cases z <;> cases n <;> cases h <;> cases cy <;> rfl

theorem Flags.toByte_ofByte : ∀ v : Byte, (Flags.ofByte v).toByte = v &&& 0xF0#8 := by decide

/-- Settles O20: the pushes by `pushesThen_of_pushPair` with the bytes of the pair, the pops by `completes_of_popPair`; F
goes through `Flags.toByte` and `Flags.ofByte`. -/
theorem pushAndPop : Obligations.PushAndPop := by
  unfold Obligations.PushAndPop
  intro s
  have push (p : StackPair) := pushesThen_of_pushPair (s := s) (exec_pushPair p s)
  have bc := push .bc
  have de := push .de
  have hl := push .hl
  have af := push .af
  simp only [State.stackPair, State.bc, State.de, State.hl, State.af, hiByte_word, loByte_word] at bc de hl af
  rw [Flags.toByte_eq] at af
  refine ⟨bc, de, hl, af, ?_, ?_, ?_, ?_⟩
  · exact completes_of_popPair (p := .bc) (flags := fun _ => s.flags) rfl (fun t v => t.reg_setPair_other .bc v)
      (fun hi lo _ => ⟨hiByte_word hi lo, loByte_word hi lo⟩) fun _ _ => rfl
  · exact completes_of_popPair (p := .de) (flags := fun _ => s.flags) rfl (fun t v => t.reg_setPair_other .de v)
      (fun hi lo _ => ⟨hiByte_word hi lo, loByte_word hi lo⟩) fun _ _ => rfl
  · exact completes_of_popPair (p := .hl) (flags := fun _ => s.flags) rfl (fun t v => t.reg_setPair_other .hl v)
      (fun hi lo _ => ⟨hiByte_word hi lo, loByte_word hi lo⟩) fun _ _ => rfl
  · refine completes_of_popPair (p := .af) (flags := Flags.ofByte) rfl ?_ (fun hi lo t => ?_) fun hi lo => ?_
    · exact fun t v q hq => State.reg_setReg_other t .a q (hiByte v) (by simpa using hq)
    · refine ⟨hiByte_word hi lo, ?_⟩
      change (Flags.ofByte (loByte (word hi lo))).toByte = _
      rw [loByte_word, Flags.toByte_ofByte]
    · change Flags.ofByte (loByte (word hi lo)) = _
      rw [loByte_word]

end Sys2Proof.Machine
end

section
/-! PROOF. The arithmetic, rotate, bit, control and system instructions, 41_alu8.md sections 9 and 10, 43_rotate_shift_bit.md
and 44_control.md, 45_system.md: each is one of the shapes of the shared operations with the reading of one small function. -/

namespace Sys2Proof.Machine

variable {i : Instr} {s : State}

/-! ### Shapes that write no register -/

/-- An instruction that writes the flags and pc alone. -/
theorem completes_of_setFlagsPc {f : Flags} {pc : Word} {cycles : Nat}
    (h : exec i s = .next { s with flags := f, pc := pc, cyc := cycles }) :
    Completes i s [] f pc s.sp cycles 0 fun _ => True :=
  ⟨_, h, trivial, rfl, rfl, rfl, rfl, rfl, coreFrame_of (fun _ _ => rfl) rfl⟩

theorem completes_of_jumpTo {v : Word} {cycles : Nat} (h : exec i s = jumpTo v cycles s) :
    Completes i s [] s.flags v s.sp cycles 0 fun _ => True := completes_of_setFlagsPc h

theorem completes_of_spend {cycles : Nat} (h : exec i s = .next (s.spend cycles)) :
    Completes i s [] s.flags s.pc s.sp cycles 0 fun _ => True := completes_of_setFlagsPc h

/-! ### INC and DEC, 41_alu8.md R283 to R286 -/

theorem inc8_eq (f : Flags) (v : Byte) : inc8 f v = (BitVec.ofNat 8 (v.toNat + 1),
    { z := decide (v = 0xFF#8), n := false, h := decide (v.toNat % 16 = 15), cy := f.cy }) := by
  have sum : v + 1 = BitVec.ofNat 8 (v.toNat + 1) := BitVec.add_def v 1
  have zero : BitVec.ofNat 8 (v.toNat + 1) = 0#8 ↔ v = 0xFF#8 := by
    rw [← sum]
    constructor <;> intro h <;> bv_omega
  simp only [inc8, sum, zero]

theorem dec8_eq (f : Flags) (v : Byte) : dec8 f v = (BitVec.ofNat 8 (v.toNat + 255),
    { z := decide (v = 0x01#8), n := true, h := decide (v.toNat % 16 = 0), cy := f.cy }) := by
  have difference : v - 1 = BitVec.ofNat 8 (v.toNat + 255) := by
    rw [BitVec.sub_eq_add_neg]
    exact BitVec.add_def v _
  have zero : BitVec.ofNat 8 (v.toNat + 255) = 0#8 ↔ v = 0x01#8 := by
    rw [← difference]
    constructor <;> intro h <;> bv_omega
  simp only [dec8, difference, zero]

theorem completes_of_stepReg {F : Flags → Byte → Byte × Flags} {r : Reg8} {n : Nat} {f : Flags}
    (h : exec i s = stepReg F r s) (hF : F s.flags (s.reg r) = (BitVec.ofNat 8 n, f)) :
    Completes i s [r] f s.pc s.sp 4 0 fun t => (t.reg r).toNat = n % 256 := by
  rw [stepReg, hF] at h
  obtain ⟨t, hex, hreg, rest⟩ := completes_of_setReg h
  exact ⟨t, hex, (congrArg BitVec.toNat hreg).trans (BitVec.toNat_ofNat n 8), rest⟩

/-- Settles O24: the register forms by `completes_of_stepReg`, the (HL) forms by `modifiesByte_of_modifyHL`, both with what
`inc8` and `dec8` answer. -/
theorem incrementAndDecrement : Obligations.IncrementAndDecrement := by
  unfold Obligations.IncrementAndDecrement
  exact fun r s => ⟨completes_of_stepReg (exec_incReg r s) (inc8_eq ..), completes_of_stepReg (exec_decReg r s) (dec8_eq ..),
    modifiesByte_of_modifyHL rfl fun v => inc8_eq s.flags v, modifiesByte_of_modifyHL rfl fun v => dec8_eq s.flags v⟩

/-! ### DAA, CPL, SCF and CCF, 41_alu8.md R287 to R290 -/

/-- The two digits' adjustments share no bit, so that joining them is adding them. -/
theorem daaAdjust_toNat (a : Byte) (f : Flags) :
    ((daaLow a f ||| daaHigh a f).toNat : Int) =
      (if f.h = true ∨ (f.n = false ∧ a.toNat % 16 > 9) then 0x06 else 0) +
        (if f.cy = true ∨ (f.n = false ∧ a.toNat > 0x99) then 0x60 else 0) := by
  unfold daaLow daaHigh
  simp only [Bool.or_eq_true, Bool.and_eq_true, Bool.not_eq_true', decide_eq_true_eq]
  split_ifs <;> rfl

theorem byte_add_eq_ofInt (a v : Byte) : a + v = BitVec.ofInt 8 (a.toNat + v.toNat) := by
  simp [BitVec.ofInt_add]

theorem daa8_fst (a : Byte) (f : Flags) : (daa8 a f).1 =
    BitVec.ofInt 8 (if f.n then (a.toNat : Int) - (daaLow a f ||| daaHigh a f).toNat
      else a.toNat + (daaLow a f ||| daaHigh a f).toNat) := by
  simp only [daa8, byte_sub_eq_ofInt, byte_add_eq_ofInt]
  split_ifs <;> rfl

theorem daa8_snd (a : Byte) (f : Flags) : (daa8 a f).2 =
    { z := decide ((daa8 a f).1 = 0#8), n := f.n, h := false,
      cy := decide (f.cy = true ∨ (f.n = false ∧ a.toNat > 0x99)) } := by
  have carry : (f.cy || (!f.n && decide (a.toNat > 0x99))) = decide (f.cy = true ∨ (f.n = false ∧ a.toNat > 0x99)) := by
    simp
  rw [← carry]
  rfl

/-- Settles O25: each writes A or nothing and the flags; DAA's sum is `daa8_fst` with the adjustment `daaAdjust_toNat`. -/
theorem accumulatorAdjustments : Obligations.AccumulatorAdjustments := by
  unfold Obligations.AccumulatorAdjustments
  intro s a f low high r
  have result : (daa8 s.regs.a s.flags).1 = r := by
    rw [daa8_fst, daaAdjust_toNat]
  have flags := daa8_snd s.regs.a s.flags
  rw [result] at flags
  refine ⟨?_, ?_, completes_of_setFlagsPc rfl, completes_of_setFlagsPc rfl⟩
  · have adjusted := completes_of_setReg (i := .daa) (s := s) (r := .a) rfl
    rwa [result, flags] at adjusted
  · obtain ⟨t, hex, hreg, rest⟩ := completes_of_setReg (i := .cpl) (s := s) (r := .a) rfl
    refine ⟨t, hex, (congrArg BitVec.toNat hreg).trans ?_, rest⟩
    exact BitVec.toNat_not

/-! ### Rotates and single bits of the byte at HL, 43_rotate_shift_bit.md R337 to R364 -/

/-- Settles O28: the byte and the flags stored are what `rot8` answers. -/
theorem memoryRotates : Obligations.MemoryRotates := by
  unfold Obligations.MemoryRotates
  exact fun op s => modifiesByte_of_modifyHL (exec_rotHL op s) fun v => by rw [rot8_eq, rotFlags]

theorem bitMask_getLsbD (b : Fin 8) (k : Nat) : (1#8 <<< b.val).getLsbD k = decide (k = b.val) := by
  have mask := BitVec.getLsbD_twoPow (w := 8) b.val k
  simpa [BitVec.twoPow, eq_comm] using mask

theorem clearBit_getLsbD (v : Byte) (b : Fin 8) (k : Nat) :
    (clearBit v b).getLsbD k = (decide (k ≠ b.val) && v.getLsbD k) := by
  rw [clearBit, BitVec.getLsbD_and, BitVec.getLsbD_not, bitMask_getLsbD]
  by_cases hk : k < 8
  · simp [hk, Bool.and_comm]
  · simp [BitVec.getLsbD_of_ge _ k (not_lt.mp hk)]

theorem insertBit_getLsbD (v : Byte) (b : Fin 8) (k : Nat) :
    (insertBit v b).getLsbD k = (decide (k = b.val) || v.getLsbD k) := by
  rw [insertBit, BitVec.getLsbD_or, bitMask_getLsbD, Bool.or_comm]

theorem clearBit_eq (v : Byte) (b : Fin 8) : clearBit v b = v &&& BitVec.ofNat 8 (255 - 2 ^ b.val) := by
  fin_cases b <;> rfl

theorem insertBit_eq (v : Byte) (b : Fin 8) : insertBit v b = v ||| BitVec.ofNat 8 (2 ^ b.val) := by
  fin_cases b <;> rfl

/-- RES and SET of a register write no flag. -/
theorem completes_of_setRegOnly {r : Reg8} {v : Byte} {cycles : Nat} {post : State → Prop}
    (h : exec i s = .next ((s.setReg r v).spend cycles)) (hpost : ∀ t, t.reg r = v → post t) :
    Completes i s [r] s.flags s.pc s.sp cycles 0 post := by
  obtain ⟨t, hex, hreg, rest⟩ := completes_of_setReg (flags := s.flags) h
  exact ⟨t, hex, hpost t hreg, rest⟩

/-- Settles O29: BIT writes the flags alone, RES and SET the register alone, bit by bit as `clearBit_getLsbD` and
`insertBit_getLsbD` say. -/
theorem registerBits : Obligations.RegisterBits := by
  unfold Obligations.RegisterBits
  intro b r s
  refine ⟨completes_of_setFlagsPc (exec_bitReg b r s), completes_of_setRegOnly (exec_resReg b r s) fun t ht k => ?_,
    completes_of_setRegOnly (exec_setReg b r s) fun t ht k _ => ?_⟩
  · rw [ht, clearBit_getLsbD]
  · rw [ht, insertBit_getLsbD]

/-- Settles O30: BIT is a read and the flags, RES and SET are read-modify-writes that leave the flags. -/
theorem memoryBits : Obligations.MemoryBits := by
  unfold Obligations.MemoryBits
  intro b s
  refine ⟨readsByte_of_withOperand (exec_bitHL b s) fun v hv => ?_,
    modifiesByte_of_modifyHL (exec_resHL b s) fun v => by rw [clearBit_eq],
    modifiesByte_of_modifyHL (exec_setHL b s) fun v => by rw [insertBit_eq]⟩
  exact ⟨_, hv, trivial, rfl, rfl, rfl, rfl, rfl, coreFrame_of (fun _ _ => rfl) rfl⟩

/-! ### Jumps, calls and returns, 44_control.md -/

/-- The displacement of a relative jump counts as a signed integer. -/
theorem add_displacement (v : Word) (e : Byte) : v + displacement e = BitVec.ofInt 16 (v.toNat + e.toInt) := addSp_fst v e

/-- Settles O31: a taken jump is `jumpTo`, an untaken one spends its cycles. -/
theorem jumps : Obligations.Jumps := by
  unfold Obligations.Jumps
  intro cc e nn s taken target
  have holds : s.flags.holds cc = taken := by cases cc <;> rfl
  have targetEq : s.pc + displacement e = target := add_displacement s.pc e
  have jp := exec_jpCond cc nn s
  have jr := exec_jrCond cc e s
  rw [jumpIf, holds] at jp
  rw [relativeIf, holds, targetEq] at jr
  refine ⟨completes_of_jumpTo rfl, completes_of_jumpTo rfl, completes_of_jumpTo ?_, ?_, ?_⟩
  · rw [← targetEq]
    rfl
  · cases htaken : taken <;> rw [htaken] at jp
    · exact completes_of_spend jp
    · exact completes_of_jumpTo jp
  · cases htaken : taken <;> rw [htaken] at jr
    · exact completes_of_spend jr
    · exact completes_of_jumpTo jr

theorem pushesThen_of_callTo {v : Word} {cycles : Nat} (h : exec i s = callTo v cycles s) :
    PushesThen i s (hiByte s.pc) (loByte s.pc) v cycles := pushesThen_of_push16 h fun _ _ => rfl

/-- Settles O32: a taken call is `callTo`, a push followed by the jump; an untaken one spends its cycles. -/
theorem calls : Obligations.Calls := by
  unfold Obligations.Calls
  intro cc k nn s
  have call := exec_callCond cc nn s
  rw [callIf] at call
  refine ⟨pushesThen_of_callTo rfl, fun h => ?_, fun h => ?_, ?_⟩
  · rw [h] at call
    exact pushesThen_of_callTo call
  · rw [h] at call
    exact completes_of_spend call
  · rw [Nat.mul_comm]
    exact pushesThen_of_callTo (exec_rst k s)

theorem popsThen_of_returnTo {cycles : Nat} (h : exec i s = returnTo cycles s) :
    PopsThen i s fun hi lo => Completes i s [] s.flags (hi ++ lo) (s.sp + 2) cycles 2 fun _ => True :=
  popsThen_of_pop16 h fun _ _ hv =>
    ⟨_, hv, trivial, rfl, rfl, rfl, rfl, rfl, coreFrame_of (fun _ _ => rfl) rfl⟩

/-- RETI is a pop followed by one change of state. -/
theorem exec_reti (s : State) : exec .reti s =
    withValue (pop16 s) fun v t => .next { t with pc := v, ime := true, imePending := false, cyc := 16 } := by
  change andThen (withValue (pop16 s) _) _ = _
  cases pop16 s <;> rfl

/-- Settles O33: a return is a pop followed by the jump; RETI sets `ime` with it. -/
theorem returns : Obligations.Returns := by
  unfold Obligations.Returns
  intro cc s
  have ret := exec_retCond cc s
  rw [returnIf] at ret
  refine ⟨popsThen_of_returnTo rfl, fun h => ?_, fun h => ?_, popsThen_of_pop16 (exec_reti s) fun hi lo hv => ?_⟩
  · rw [h] at ret
    exact popsThen_of_returnTo ret
  · rw [h] at ret
    exact completes_of_spend ret
  · exact ⟨_, hv, rfl, fun d b => peek_congr ⟨rfl, rfl, rfl, rfl, rfl, rfl, rfl, rfl, rfl, rfl, rfl, rfl⟩ d b⟩

/-! ### The system instructions, 45_system.md -/

/-- A prefixed operation of a register changes registers, flags and the cycle count alone, and costs 8. -/
theorem prefixed_register {x : Byte} (h : x.toNat % 8 ≠ 6) (s : State) :
    ∃ g f, prefixed x s = .next { s with regs := g, flags := f, cyc := 8 } := by
  have named : ∀ z : Fin 8, z.val ≠ 6 → (Reg8.ofField z).isSome = true := by decide
  obtain ⟨r, hr⟩ := Option.isSome_iff_exists.mp (named (fieldZ x) h)
  unfold prefixed
  split <;> rename_i hz
  case h_2 | h_4 | h_6 | h_8 =>
    rw [hr] at hz
    cases hz
  all_goals exact ⟨_, _, rfl⟩

/-- Settles O34: each by its own equation; the bare byte 0xCB with its second byte is the instruction `exec_decodePrefixed`
names. -/
theorem systemInstructions : Obligations.SystemInstructions := by
  unfold Obligations.SystemInstructions
  intro x s bug
  have bugIff : (s.launch.haltBug && !s.ime && decide (s.pending ≠ 0#5)) = true ↔ bug := by
    simp only [Bool.and_eq_true, Bool.not_eq_true', decide_eq_true_eq, and_assoc]
    rfl
  have halted : exec .halt s = .next ((haltCore s).spend 4) := rfl
  have stopped : exec (.stop x) s = switchSpeed s := rfl
  refine ⟨completes_of_spend rfl, fun h => ?_, fun h => ?_, fun h => ?_, fun h => ?_, rfl, rfl,
    (exec_decodePrefixed x s).symm, fun h => ?_⟩
  · rw [halted, haltCore, if_pos (bugIff.mpr h)]
    rfl
  · rw [halted, haltCore, if_neg (h ∘ bugIff.mp)]
    rfl
  · rw [stopped, switchSpeed, if_pos (by simpa using h)]
    rfl
  · rw [stopped, switchSpeed, if_neg (by simpa using h)]
    rfl
  · obtain ⟨g, f, hp⟩ := prefixed_register h s
    exact ⟨_, hp, rfl, rfl, rfl, fun d b => peek_congr ⟨rfl, rfl, rfl, rfl, rfl, rfl, rfl, rfl, rfl, rfl, rfl, rfl⟩ d b⟩

end Sys2Proof.Machine
end

section
/-! PROOF. The memory map, 20_memory.md: what an access does at each kind of place, where each kind of place lies, and from
these the reads, the stores, the external-RAM window, the undefined addresses and the access restrictions. -/

namespace Sys2Proof.Machine

variable {s : State} {addr : Word} {v d : Byte} {key : Nat}

/-! ### One access at each kind of place -/

theorem peek_rom (h : locate s addr = .rom key) : peek d addr s = s.cell key := by unfold peek; rw [h]

theorem peek_ram (h : locate s addr = .ram key) : peek d addr s = s.cell key := by unfold peek; rw [h]

theorem peek_nibble (h : locate s addr = .nibble key) : peek d addr s = 0#4 ++ (s.cell key).extractLsb' 0 4 := by
  unfold peek; rw [h]

theorem peek_rtc {r : RtcReg} (h : locate s addr = .rtc r) : peek d addr s = s.cart.mapper.rtc.get r := by
  unfold peek; rw [h]

theorem peek_noRam (h : locate s addr = .noRam) : peek d addr s = d := by unfold peek; rw [h]

theorem peek_hole (h : locate s addr = .hole) : peek d addr s = 0x00#8 := by unfold peek; rw [h]; rfl

theorem peek_io {r : IoReg} (h : locate s addr = .io r) : peek d addr s = ioRead r d s := by unfold peek; rw [h]

theorem peek_ie (h : locate s addr = .ie) : peek d addr s = d.extractLsb' 5 3 ++ s.ie := by unfold peek; rw [h]

theorem poke_ram (h : locate s addr = .ram key) : poke addr v s = s.setCell key v := by unfold poke; rw [h]

theorem poke_nibble (h : locate s addr = .nibble key) : poke addr v s = s.setCell key (0#4 ++ v.extractLsb' 0 4) := by
  unfold poke; rw [h]

theorem poke_rtc {r : RtcReg} (h : locate s addr = .rtc r) : poke addr v s = s.setMapper (s.cart.mapper.setRtc r v) := by
  unfold poke; rw [h]

theorem poke_noRam (h : locate s addr = .noRam) : poke addr v s = s := by unfold poke; rw [h]

theorem poke_hole (h : locate s addr = .hole) : poke addr v s = s := by unfold poke; rw [h]

theorem poke_io {r : IoReg} (h : locate s addr = .io r) : poke addr v s = ioWrite r v s := by unfold poke; rw [h]

theorem poke_ie (h : locate s addr = .ie) : poke addr v s = { s with ie := v.extractLsb' 0 5 } := by unfold poke; rw [h]

theorem locate_setCell (s : State) (key : Nat) (v : Byte) (addr : Word) : locate (s.setCell key v) addr = locate s addr :=
  locate_congr rfl rfl rfl addr

theorem cell_setCell_same (hw : Memory.wf s.mem = true) (key : Nat) (v : Byte) : (s.setCell key v).cell key = v :=
  Memory.read_write_same key v hw

/-- A stored byte is read at every address of its cell. -/
theorem peek_setCell (hw : Memory.wf s.mem = true) (h : locate s addr = .ram key) :
    peek d addr (s.setCell key v) = v := by
  rw [peek_ram ((locate_setCell ..).trans h), cell_setCell_same hw]

/-! ### The places that fault -/

theorem locate_undefined_iff : locate s addr = .undefined ↔
    0xFF00 ≤ addr.toNat ∧ addr.toNat < 0xFF80 ∧ ¬ IoNamed s.launch.colorMode addr.toNat := by
  constructor
  · intro h
    obtain ⟨low, high⟩ := locate_undefined_range h
    exact ⟨low, high, (ioLoc_table _ low high).1.mp ((locate_io low high).symm.trans h)⟩
  · rintro ⟨low, high, unnamed⟩
    exact (locate_io low high).trans ((ioLoc_table _ low high).1.mpr unnamed)

theorem locate_io_range {r : IoReg} (h : locate s addr = .io r) :
    0xFF00 ≤ addr.toNat ∧ addr.toNat < 0xFF80 := by
  unfold locate at h
  dsimp only at h
  split_ifs at h
  · exact absurd h (extLoc_ne_io _ _ r)
  · constructor <;> omega

theorem locate_dma_iff : locate s addr = .io .dma ↔ addr.toNat = 0xFF46 := by
  constructor
  · intro h
    obtain ⟨low, high⟩ := locate_io_range h
    exact (ioLoc_table _ low high).2.mp ((locate_io low high).symm.trans h)
  · intro h
    have low : 0xFF00 ≤ addr.toNat := by omega
    have high : addr.toNat < 0xFF80 := by omega
    exact (locate_io low high).trans ((ioLoc_table _ low high).2.mpr h)

theorem readFault_of_defined (h : locate s addr ≠ .undefined) : readFault addr s = none := by
  simp [readFault, busReadFault, h]

theorem writeFault_of_defined (h : locate s addr ≠ .undefined) (hd : locate s addr ≠ .io .dma ∨ v.toNat < 0xE0) :
    writeFault addr v s = none := by
  have notDma : ¬ (locate s addr = .io .dma ∧ 0xE0 ≤ v.toNat) := fun ⟨hl, hv⟩ => hd.elim (· hl) (not_lt.mpr hv)
  simp [writeFault, h, notDma]

/-- An unrestricted write that does not fault is the map's. -/
theorem memWrite_of_defined (hr : restricted addr s = false) (h : locate s addr ≠ .undefined)
    (hd : locate s addr ≠ .io .dma ∨ v.toNat < 0xE0) : memWrite addr v s = .next (poke addr v s) := by
  rw [memWrite_next (writeFault_of_defined h hd), writeByte, hr]
  rfl

theorem memRead_of_defined (hr : restricted addr s = false) (h : locate s addr ≠ .undefined) :
    memRead addr s = .ok (peek (Config.draw s.draws) addr s) s.countRead := by
  rw [memRead_ok (readFault_of_defined h), readByte, hr]
  rfl

theorem poke_storeFrame (hr : restricted addr s = false) : s.storeFrame (poke addr v s) addr := by
  have frame := writeByte_storeFrame addr v s
  rwa [writeByte, hr] at frame

/-! ### Reads, 20_memory.md R81 to R92 -/

theorem toNat_sub_mirror (h : 0x2000 ≤ addr.toNat) : (addr - 0x2000#16).toNat = addr.toNat - 0x2000 := by bv_omega

/-- Settles O36: each range by its `locate_` lemma; a mirror address reaches the cell of the address 0x2000 below. -/
theorem readsFollowTheMap : Obligations.ReadsFollowTheMap := by
  unfold Obligations.ReadsFollowTheMap
  intro s addr d n
  have bank : s.vramBank = if s.launch.colorMode then s.ppu.vbk else false := by
    unfold State.vramBank
    cases s.launch.colorMode <;> rfl
  refine ⟨fun h => readFault_of_defined fun hu => ?undefined, fun h => peek_rom (locate_rom0 h), fun h h' => ?romBank,
    fun h h' => ?vram, fun h h' => peek_ram (locate_wram h h'), fun h h' => ?mirror, fun h h' => peek_ram (locate_oam h h'),
    fun h h' => peek_hole (locate_hole h h'), fun h h' => peek_ram (locate_hram h h'), fun h => ?ie⟩
  case undefined =>
    obtain ⟨low, high⟩ := locate_undefined_range hu
    omega
  case romBank => rw [peek_rom (locate_romBank h h'), Nat.add_sub_assoc h]
  case vram => rw [peek_ram (locate_vram h h'), bank]
  case mirror =>
    have below : (addr - 0x2000#16).toNat = addr.toNat - 0x2000 := toNat_sub_mirror (by omega)
    rw [peek_ram (locate_mirror h h'), peek_ram (locate_wram (by omega) (by omega)), below]
  case ie =>
    rw [peek_ie (locate_ie h)]
    exact ⟨BitVec.extractLsb'_append_eq_right, BitVec.extractLsb'_append_eq_left⟩

/-! ### Stores, 20_memory.md R83 to R92 -/

/-- Outside external RAM the storage places are those of VRAM, WRAM and its mirror, OAM and HRAM. -/
theorem locate_storage (h : (0x8000 ≤ addr.toNat ∧ addr.toNat < 0xA000) ∨ (0xC000 ≤ addr.toNat ∧ addr.toNat < 0xFEA0) ∨
    (0xFF80 ≤ addr.toNat ∧ addr.toNat < 0xFFFF)) : ∃ key, locate s addr = .ram key := by
  rcases h with ⟨low, high⟩ | ⟨low, high⟩ | ⟨low, high⟩
  · exact ⟨_, locate_vram low high⟩
  · rcases Nat.lt_or_ge addr.toNat 0xE000 with h | h
    · exact ⟨_, locate_wram low h⟩
    rcases Nat.lt_or_ge addr.toNat 0xFE00 with h' | h'
    · exact ⟨_, locate_mirror h h'⟩
    · exact ⟨_, locate_oam h' high⟩
  · exact ⟨_, locate_hram low high⟩

/-- Settles O37: the write is `poke`, one cell in the storage ranges, and reads go to the cell by the `locate_` lemmas. -/
theorem writesReadBack : Obligations.WritesReadBack := by
  unfold Obligations.WritesReadBack
  intro s addr v d hw hr n hn
  have defined : locate s addr ≠ .undefined := fun hu => by
    obtain ⟨low, high⟩ := locate_undefined_range hu
    omega
  have notDma : locate s addr ≠ .io .dma := fun hd => by
    have := locate_dma_iff.mp hd
    omega
  refine ⟨_, memWrite_of_defined hr defined (.inl notDma), fun h => ?storage, fun h h' => ?up, fun h h' => ?down,
    fun h h' => poke_hole (locate_hole h h'), fun h => poke_ie (locate_ie h), fun h => ?rom,
    fun off => poke_cell_other (storeKey_ne_rom addr s off), poke_storeFrame hr⟩
  case storage =>
    obtain ⟨key, hkey⟩ := locate_storage (s := s) (addr := addr) (by omega)
    rw [poke_ram hkey]
    exact ⟨peek_setCell hw hkey, rfl⟩
  case up =>
    have above : (addr + 0x2000#16).toNat = addr.toNat + 0x2000 := by bv_omega
    rw [poke_ram (locate_wram h (by omega))]
    refine peek_setCell hw ?_
    rw [locate_mirror (by omega) (by omega), above, Nat.add_sub_cancel]
  case down =>
    have below : (addr - 0x2000#16).toNat = addr.toNat - 0x2000 := toNat_sub_mirror (by omega)
    rw [poke_ram (locate_mirror h h')]
    refine peek_setCell hw ?_
    rw [locate_wram (by omega) (by omega), below]
  case rom =>
    obtain ⟨key, hkey⟩ := locate_isRom (s := s) h
    unfold poke
    rw [hkey]
    rfl

/-! ### Undefined addresses and the restrictions, 20_memory.md R90 and R116 -/

/-- Settles O40: an address faults exactly where `locate_undefined_iff` says, and FF46 is the one trigger. -/
theorem undefinedIoFaults : Obligations.UndefinedIoFaults := by
  unfold Obligations.UndefinedIoFaults
  intro s addr v hr n named
  have undefinedIff : locate s addr = .undefined ↔ ¬ named := by
    rw [locate_undefined_iff]
    unfold IoNamed
    simp only [named]
    constructor
    · rintro ⟨low, high, unnamed⟩ hnamed
      rcases hnamed with h | h | h
      · omega
      · omega
      · exact unnamed h
    · intro h
      refine ⟨by omega, by omega, fun hn => h (.inr (.inr hn))⟩
  have defined (h : named) : locate s addr ≠ .undefined := fun hu => undefinedIff.mp hu h
  refine ⟨fun h => ⟨_, _, memRead_of_defined hr (defined h)⟩, fun h => ?_, fun h hd => ?_, fun h hv => ?_⟩
  · have undefined := undefinedIff.mpr h
    refine ⟨memRead_fault (r := .undefinedIo addr .read) ?_, memWrite_fault (r := .undefinedIo addr .write) ?_⟩
    · simp [readFault, hr, busReadFault, undefined]
    · simp [writeFault, hr, undefined]
  · refine ⟨_, memWrite_of_defined hr (defined h) ?_⟩
    rw [Ne, locate_dma_iff]
    omega
  · have dma : locate s addr = .io .dma := locate_dma_iff.mpr h
    refine memWrite_fault (r := .dmaSourceUnmodelled v) ?_
    simp [writeFault, hr, dma, hv]

/-- The blocked situations of 20_memory.md R116 as the model's two tests. -/
theorem restricted_iff : restricted addr s = true ↔ s.launch.hwAccessRestrictions = true ∧
    ((s.dma.oam ≠ none ∧ ¬ (0xFF80 ≤ addr.toNat ∧ addr.toNat ≤ 0xFFFE)) ∨
      (0xFE00 ≤ addr.toNat ∧ addr.toNat ≤ 0xFE9F ∧ (s.ppu.mode = .oamSearch ∨ s.ppu.mode = .pixelTransfer)) ∨
      (0x8000 ≤ addr.toNat ∧ addr.toNat ≤ 0x9FFF ∧ s.ppu.mode = .pixelTransfer)) := by
  have oamEnd : addr.toNat < 0xFEA0 ↔ addr.toNat ≤ 0xFE9F := by omega
  have vramEnd : addr.toNat < 0xA000 ↔ addr.toNat ≤ 0x9FFF := by omega
  simp only [restricted, dmaHolds, ppuHolds, Bool.or_eq_true, Bool.and_eq_true, Bool.not_eq_true', decide_eq_true_eq,
    oamEnd, vramEnd, Option.isSome_iff_ne_none, ← Bool.not_eq_true, and_assoc, ← and_or_left]

/-- Settles O43: a blocked access by the tests of `restricted_iff`, every other by the map. -/
theorem restrictedAccesses : Obligations.RestrictedAccesses := by
  unfold Obligations.RestrictedAccesses
  intro s addr v n blocked
  have iff : restricted addr s = true ↔ s.launch.hwAccessRestrictions = true ∧ blocked := restricted_iff
  constructor
  · intro h
    have hr := iff.mpr h
    refine ⟨(memRead_ok ?_).trans ?_, (memWrite_next ?_).trans ?_⟩
    · simp [readFault, hr]
    · simp [readByte, hr, State.draw]
    · simp [writeFault, hr]
    · simp [writeByte, hr]
  · intro h
    have hr : restricted addr s = false := by
      rw [← Bool.not_eq_true, iff]
      rintro ⟨hw, hb⟩
      rcases h with h | h
      · rw [h] at hw
        cases hw
      · exact h hb
    refine ⟨memRead_of_defined hr, fun hu hd => memWrite_of_defined hr hu (.inl hd), fun ha hv => ?_⟩
    subst ha
    have dma : locate s 0xFF46#16 = .io .dma := locate_dma_iff.mpr rfl
    have write := memWrite_of_defined hr (by rw [dma]; exact nofun) (.inr hv)
    exact ⟨write, write.trans (by rw [poke_io dma]; rfl)⟩

/-! ### The external-RAM window, 20_memory.md R85 and R107 to R112 -/

/-- A read of the window is the open bits, and a store there does nothing. -/
def DeadWindow (s : State) (addr : Word) (v d : Byte) : Prop := peek d addr s = d ∧ memWrite addr v s = .next s

/-- The window reads and stores the byte of an external-RAM bank, where the RAM has one. -/
def LiveWindow (s : State) (addr : Word) (v d : Byte) (bank : Nat) : Prop :=
  let size := s.cart.ramBytes
  let k := bank * 0x2000 + (addr.toNat - 0xA000)
  (size = 0 → DeadWindow s addr v d) ∧
  (0 < size ∧ size < 0x2000 → peek d addr s = s.cell (Key.extRam (k % size))) ∧
  (0x2000 ≤ size ∧ k < size → peek d addr s = s.cell (Key.extRam k)) ∧
  (0x2000 ≤ size ∧ size ≤ k → DeadWindow s addr v d) ∧
  (0 < size ∧ (size < 0x2000 ∨ k < size) →
    ∃ t, memWrite addr v s = .next t ∧ t = { s with mem := t.mem } ∧ peek d addr t = v ∧ s.storeFrame t addr)

/-- The window reads and stores one clock register. -/
def ClockWindow (s : State) (addr : Word) (v d : Byte) (r : RtcReg) : Prop :=
  peek d addr s = s.cart.mapper.rtc.get r ∧
  ∃ t, memWrite addr v s = .next t ∧ t = { s with cart := { s.cart with mapper := t.cart.mapper } } ∧
    peek d addr t = v ∧ s.storeFrame t addr

theorem Rtc.get_set (t : Rtc) (r : RtcReg) (v : Byte) : (t.set r v).get r = v := by cases r <;> rfl

theorem ramByte_empty {c : Cart} (bank off : Nat) (h : c.ramBytes = 0) : c.ramByte bank off = .absent := if_pos h

theorem ramByte_small {c : Cart} (bank off : Nat) (h : 0 < c.ramBytes ∧ c.ramBytes < 0x2000) :
    c.ramByte bank off = .byte ((bank * 0x2000 + off) % c.ramBytes) := by
  rw [Cart.ramByte, if_neg (by omega), if_pos h.2]

theorem ramByte_large {c : Cart} {bank off : Nat} (h : 0x2000 ≤ c.ramBytes ∧ bank * 0x2000 + off < c.ramBytes) :
    c.ramByte bank off = .byte (bank * 0x2000 + off) := by
  rw [Cart.ramByte, if_neg (by omega), if_neg (by omega), if_pos h.2]

theorem ramByte_beyond {c : Cart} {bank off : Nat} (h : 0x2000 ≤ c.ramBytes ∧ c.ramBytes ≤ bank * 0x2000 + off) :
    c.ramByte bank off = .absent := by
  rw [Cart.ramByte, if_neg (by omega), if_neg (by omega), if_neg (by omega)]

section Window

variable (hw : Memory.wf s.mem = true) (hr : restricted addr s = false) (low : 0xA000 ≤ addr.toNat)
  (high : addr.toNat < 0xC000)
include hr low high

/-- No store to the window faults. -/
theorem memWrite_window : memWrite addr v s = .next (poke addr v s) := by
  refine memWrite_of_defined hr (fun hu => ?_) (.inl fun hd => ?_)
  · obtain ⟨ioLow, ioHigh⟩ := locate_undefined_range hu
    omega
  · have := locate_dma_iff.mp hd
    omega

theorem window_absent (h : s.cart.extRam (addr.toNat - 0xA000) = .absent) : DeadWindow s addr v d := by
  have place : locate s addr = .noRam := by rw [locate_ext low high, extLoc, h]
  exact ⟨peek_noRam place, by rw [memWrite_window hr low high, poke_noRam place]⟩

include hw in
theorem window_byte {o : Nat} (h : s.cart.extRam (addr.toNat - 0xA000) = .byte o) :
    peek d addr s = s.cell (Key.extRam o) ∧
    ∃ t, memWrite addr v s = .next t ∧ t = { s with mem := t.mem } ∧ peek d addr t = v ∧ s.storeFrame t addr := by
  have place : locate s addr = .ram (Key.extRam o) := by rw [locate_ext low high, extLoc, h]
  refine ⟨peek_ram place, _, memWrite_window hr low high, ?_, ?_, poke_storeFrame hr⟩
  · rw [poke_ram place]
    rfl
  · rw [poke_ram place, peek_setCell hw place]

include hw in
theorem window_live {bank : Nat}
    (h : s.cart.extRam (addr.toNat - 0xA000) = s.cart.ramByte bank (addr.toNat - 0xA000)) : LiveWindow s addr v d bank := by
  unfold LiveWindow
  refine ⟨fun hs => ?_, fun hs => ?_, fun hs => ?_, fun hs => ?_, fun hs => ?_⟩
  · exact window_absent hr low high (h.trans (ramByte_empty _ _ hs))
  · exact (window_byte (v := v) hw hr low high (h.trans (ramByte_small _ _ hs))).1
  · exact (window_byte (v := v) hw hr low high (h.trans (ramByte_large hs))).1
  · exact window_absent hr low high (h.trans (ramByte_beyond hs))
  · rcases Nat.lt_or_ge s.cart.ramBytes 0x2000 with small | large
    · exact (window_byte hw hr low high (h.trans (ramByte_small _ _ ⟨hs.1, small⟩))).2
    · exact (window_byte hw hr low high (h.trans (ramByte_large ⟨large, by omega⟩))).2

include hw in
theorem window_nibble {i : Nat} (h : s.cart.extRam (addr.toNat - 0xA000) = .nibble i) :
    (peek d addr s).toNat = (s.cell (Key.mbc2 i)).toNat % 16 ∧
    ∃ t, memWrite addr v s = .next t ∧ t = { s with mem := t.mem } ∧ (peek d addr t).toNat = v.toNat % 16 ∧
      s.storeFrame t addr := by
  have place : locate s addr = .nibble (Key.mbc2 i) := by rw [locate_ext low high, extLoc, h]
  have nibble (x : Byte) : (0#4 ++ x.extractLsb' 0 4 : BitVec (4 + 4)).toNat = x.toNat % 16 := by
    rw [toNat_append_eq_add, lowBits_toNat, BitVec.toNat_ofNat]
    omega
  refine ⟨?_, _, memWrite_window hr low high, ?_, ?_, poke_storeFrame hr⟩
  · rw [peek_nibble place, nibble]
  · rw [poke_nibble place]
    rfl
  · rw [poke_nibble place, peek_nibble ((locate_setCell ..).trans place), cell_setCell_same hw, nibble, nibble, Nat.mod_mod]

theorem window_rtc {bank : BitVec 5} {sel : Byte} {en : Bool} {rtc : Rtc} {r : RtcReg}
    (hm : s.cart.mapper = .mbc3 bank sel en rtc) (h : s.cart.extRam (addr.toNat - 0xA000) = .rtc r) :
    ClockWindow s addr v d r := by
  have place : locate s addr = .rtc r := by rw [locate_ext low high, extLoc, h]
  have stays : locate (poke addr v s) addr = .rtc r := by
    rw [poke_locate v s (by rw [place]; exact nofun) (by rw [place]; exact nofun) addr, place]
  refine ⟨peek_rtc place, _, memWrite_window hr low high, ?_, ?_, poke_storeFrame hr⟩
  · rw [poke_rtc place]
    rfl
  · rw [peek_rtc stays, poke_rtc place, State.setMapper_cart, hm]
    exact Rtc.get_set rtc r v

end Window

/-- What the window reaches under each controller, 20_memory.md R108 to R112. -/
theorem extRam_mbc1 {c : Cart} {low5 : BitVec 5} {high2 : BitVec 2} {mode en : Bool}
    (h : c.mapper = .mbc1 low5 high2 mode en) (off : Nat) :
    c.extRam off = if en then c.ramByte (if mode then high2.toNat else 0) off else .absent := by
  unfold Cart.extRam
  rw [h]

theorem extRam_mbc2 {c : Cart} {bank : BitVec 4} {en : Bool} (h : c.mapper = .mbc2 bank en) (off : Nat) :
    c.extRam off = if en then .nibble (off % 512) else .absent := by
  unfold Cart.extRam
  rw [h]

theorem extRam_mbc3 {c : Cart} {bank : BitVec 5} {sel : Byte} {en : Bool} {rtc : Rtc} (h : c.mapper = .mbc3 bank sel en rtc)
    (off : Nat) : c.extRam off = if en then mbc3Target c sel off else .absent := by
  unfold Cart.extRam
  rw [h]

theorem extRam_mbc5 {c : Cart} {bank : BitVec 9} {ramBank : BitVec 4} {en : Bool} (h : c.mapper = .mbc5 bank ramBank en)
    (off : Nat) : c.extRam off = if en then c.ramByte ramBank.toNat off else .absent := by
  unfold Cart.extRam
  rw [h]

theorem mbc3Target_none (c : Cart) {sel : Byte} (h : 4 ≤ sel.toNat ∧ sel.toNat < 8 ∨ 0x0C < sel.toNat) (off : Nat) :
    mbc3Target c sel off = .absent := by
  have unselected {n : Byte} (hn : 8 ≤ n.toNat ∧ n.toNat ≤ 0x0C) : sel ≠ n := fun he => by
    subst he
    omega
  unfold mbc3Target
  rw [if_neg (by omega), if_neg (unselected (by decide)), if_neg (unselected (by decide)), if_neg (unselected (by decide)),
    if_neg (unselected (by decide)), if_neg (unselected (by decide))]

/-- Settles O39: the controller names what the window reaches, and the `window_` lemma of it says what an access does. -/
theorem externalRamWindow : Obligations.ExternalRamWindow := by
  unfold Obligations.ExternalRamWindow
  intro s addr v d hw hr low high off size dead live clock
  refine ⟨fun hm => window_live hw hr low high (by unfold Cart.extRam; rw [hm]), fun low5 high2 mode en hm => ?mbc1,
    fun bank en hm => ?mbc2, fun bank sel en rtc hm => ?mbc3, fun bank ramBank en hm => ?mbc5⟩
  case mbc1 =>
    refine ⟨fun he => window_absent hr low high ?_, fun he => window_live hw hr low high ?_⟩ <;>
      rw [extRam_mbc1 hm, he]
    · rfl
    · rfl
  case mbc2 =>
    refine ⟨fun he => window_absent hr low high ?_, fun he => window_nibble hw hr low high ?_⟩ <;>
      rw [extRam_mbc2 hm, he]
    · rfl
    · rfl
  case mbc3 =>
    refine ⟨fun he => window_absent hr low high ?_, fun he => ?_⟩
    · rw [extRam_mbc3 hm, he]
      rfl
    have target : s.cart.extRam off = mbc3Target s.cart sel off := by
      rw [extRam_mbc3 hm, he]
      rfl
    refine ⟨fun hsel => window_live hw hr low high (target.trans (if_pos hsel)), fun hsel => ?_, fun hsel => ?_,
      fun hsel => ?_, fun hsel => ?_, fun hsel => ?_,
      fun hsel => window_absent hr low high (target.trans (mbc3Target_none _ hsel off))⟩ <;> rw [hsel] at target
    · exact window_rtc (r := .seconds) hr low high hm target
    · exact window_rtc (r := .minutes) hr low high hm target
    · exact window_rtc (r := .hours) hr low high hm target
    · exact window_rtc (r := .dayLow) hr low high hm target
    · exact window_rtc (r := .dayHigh) hr low high hm target
  case mbc5 =>
    refine ⟨fun he => window_absent hr low high ?_, fun he => window_live hw hr low high ?_⟩ <;>
      rw [extRam_mbc5 hm, he]
    · rfl
    · rfl

end Sys2Proof.Machine
end

section
/-! PROOF. The I/O registers, 20_memory.md R90 and 60_exceptions.md: a register's address names it on every console, or on the
colour console, so that an access there is `ioWrite` and `ioRead`; then each register's own write and read. -/

namespace Sys2Proof.Machine

variable {s : State} {addr : Word}

/-! ### The registers' addresses -/

/-- Every row of the I/O map is found at its address, a colour-only one in colour mode. -/
theorem ioLoc_of_mem : ∀ (color : Bool), ∀ row ∈ ioMap, (color || !row.colourOnly) = true →
    ioLoc color row.addr = .io row.reg ∧ 0xFF00 ≤ row.addr ∧ row.addr < 0xFF80 := by decide +kernel

theorem locate_of_mem {row : IoRow} (hm : row ∈ ioMap) (hc : (s.launch.colorMode || !row.colourOnly) = true)
    (ha : addr.toNat = row.addr) : locate s addr = .io row.reg := by
  obtain ⟨place, low, high⟩ := ioLoc_of_mem _ row hm hc
  rw [locate_io (ha.symm ▸ low) (ha.symm ▸ high), ha, place]

/-- An access to a register that both consoles have. -/
theorem access_io {r : IoReg} (h : ioRow addr.toNat r ∈ ioMap) (s : State) (v d : Byte) :
    poke addr v s = ioWrite r v s ∧ peek d addr s = ioRead r d s :=
  have place := locate_of_mem h (Bool.or_true _) rfl
  ⟨poke_io place, peek_io place⟩

/-- An access to a register of the colour console. -/
theorem access_colourIo {r : IoReg} (h : colourRow addr.toNat r ∈ ioMap) (hc : s.launch.colorMode = true) (v d : Byte) :
    poke addr v s = ioWrite r v s ∧ peek d addr s = ioRead r d s :=
  have place := locate_of_mem h (by rw [hc]; rfl) rfl
  ⟨poke_io place, peek_io place⟩

/-! ### Registers put together from fields, as words -/

/-- High bits kept from one word above a field, as a mask and a join. -/
theorem highBits_append_eq {m n : Nat} (d : BitVec (m + n)) (x : BitVec n) :
    d.extractLsb' n m ++ x = d &&& BitVec.allOnes (m + n) <<< n ||| x.setWidth (m + n) := by
  ext k hk
  by_cases hkn : k < n
  · simp [BitVec.getElem_append, hkn]
  · have above : n + (k - n) = k := by omega
    simp [BitVec.getElem_append, hkn, above, BitVec.getLsbD_of_ge x k (not_lt.mp hkn), BitVec.getLsbD_eq_getElem hk]

theorem padByte_eq (d : Byte) (x : BitVec 2) (y : BitVec 4) :
    (d.extractLsb' 6 2 ++ x ++ y : BitVec (2 + 2 + 4)) = d &&& 0xC0#8 ||| x.setWidth 8 <<< 4 ||| y.setWidth 8 := by
  ext k hk
  interval_cases k <;> (simp only [BitVec.getElem_append]; simp)

theorem statByte_eq (d : Byte) (x : BitVec 4) (b : Bool) (c : BitVec 2) :
    (d.extractLsb' 7 1 ++ x ++ BitVec.ofBool b ++ c : BitVec (1 + 4 + 1 + 2)) =
      d &&& 0x80#8 ||| x.setWidth 8 <<< 3 ||| (if b then 0x04#8 else 0) ||| c.setWidth 8 := by
  ext k hk
  cases b <;> interval_cases k <;> (simp only [BitVec.getElem_append]; simp)

theorem speedByte_eq (d : Byte) (x y : Bool) :
    (BitVec.ofBool x ++ d.extractLsb' 1 6 ++ BitVec.ofBool y : BitVec (1 + 6 + 1)) =
      (if x then 0x80#8 else 0) ||| (d &&& 0x7E#8) ||| (if y then 0x01#8 else 0) := by
  ext k hk
  cases x <;> cases y <;> interval_cases k <;> (simp only [BitVec.getElem_append]; simp)

theorem indexByte_eq (d : Byte) (x : Bool) (y : BitVec 6) :
    (BitVec.ofBool x ++ d.extractLsb' 6 1 ++ y : BitVec (1 + 1 + 6)) =
      (if x then 0x80#8 else 0) ||| (d &&& 0x40#8) ||| y.setWidth 8 := by
  ext k hk
  cases x <;> interval_cases k <;> (simp only [BitVec.getElem_append]; simp)

theorem powerByte_eq (d x : Byte) :
    (BitVec.ofBool (x.getLsbD 7) ++ d.extractLsb' 0 7 : BitVec (1 + 7)) = x &&& 0x80#8 ||| d &&& 0x7F#8 := by
  ext k hk
  interval_cases k <;> (simp only [BitVec.getElem_append]; simp)

theorem getLsbD_seven_eq (v : Byte) : v.getLsbD 7 = decide (0x80 ≤ v.toNat) := by
  have := v.isLt
  simp only [BitVec.getLsbD, Nat.testBit_eq_decide_div_mod_eq, decide_eq_decide]
  omega

theorem bitSeven_set {v : Byte} (h : 0x80 ≤ v.toNat) : v.getLsbD 7 = true := by
  rw [getLsbD_seven_eq, decide_eq_true h]

theorem bitSeven_clear {v : Byte} (h : v.toNat < 0x80) : v.getLsbD 7 = false := by
  rw [getLsbD_seven_eq, decide_eq_false (not_le.mpr h)]

/-! ### The core's registers, 60_exceptions.md R481 to R483, R490, R550 -/

/-- Settles O41: the accesses by `access_io`, the bytes with open bits as words. -/
theorem coreRegistersReadBack : Obligations.CoreRegistersReadBack := by
  unfold Obligations.CoreRegistersReadBack
  intro s v d
  refine ⟨access_io (r := .div) (by decide) s v d, access_io (r := .tima) (by decide) s v d,
    access_io (r := .tma) (by decide) s v d, ?_, ?_, ?_, access_io (r := .dma) (by decide) s v d, fun hc => ?_⟩
  · obtain ⟨write, read⟩ := access_io (addr := 0xFF07) (r := .tac) (by decide) s v d
    exact ⟨write, read.trans (highBits_append_eq (m := 5) (n := 3) d _)⟩
  · obtain ⟨write, read⟩ := access_io (addr := 0xFF0F) (r := .iflag) (by decide) s v d
    exact ⟨write, read.trans (highBits_append_eq (m := 3) (n := 5) d _)⟩
  · obtain ⟨write, read⟩ := access_io (addr := 0xFF00) (r := .p1) (by decide) s v d
    exact ⟨write, read.trans (padByte_eq d _ _)⟩
  · obtain ⟨write, read⟩ := access_colourIo (addr := 0xFF4D) (r := .key1) (by decide) hc v d
    exact ⟨write, read.trans (speedByte_eq d _ _)⟩

/-! ### The PPU's registers, 60_exceptions.md R501 to R503, R513 to R516 -/

theorem PalIndex.afterWrite_index (x : PalIndex) :
    x.afterWrite.index.toNat = if x.auto then (x.index.toNat + 1) % 64 else x.index.toNat := by
  unfold PalIndex.afterWrite
  split
  · exact BitVec.toNat_add x.index 1
  · rfl

theorem PalIndex.afterWrite_auto (x : PalIndex) : x.afterWrite.auto = x.auto := by
  unfold PalIndex.afterWrite
  split <;> rfl

theorem lycRose_iff (p : Ppu) (v : Byte) : (p.writeLyc v).lycRose = true ↔
    p.lycRose = true ∨ (p.lcdOn = true ∧ p.ly ≠ p.lyc ∧ p.ly = v) := by
  simp [Ppu.writeLyc, Ppu.lyMatches, and_assoc]

/-- Settles O42: the accesses by `access_io` and `access_colourIo`, palette data through the index's cell. -/
theorem ppuRegistersReadBack : Obligations.PpuRegistersReadBack := by
  unfold Obligations.PpuRegistersReadBack
  intro s v d mode
  have code : s.ppu.mode.code.setWidth 8 = mode := by
    simp only [mode]
    cases s.ppu.mode <;> rfl
  refine ⟨(access_io (r := .lcdc) (by decide) s v d).2, ?stat, access_io (r := .scy) (by decide) s v d,
    access_io (r := .scx) (by decide) s v d, access_io (r := .ly) (by decide) s v d, ?lyc,
    access_io (r := .bgp) (by decide) s v d, access_io (r := .obp0) (by decide) s v d,
    access_io (r := .obp1) (by decide) s v d, access_io (r := .wy) (by decide) s v d,
    access_io (r := .wx) (by decide) s v d, fun hc => ⟨?vbk, ?bcps, ?ocps, ?bcpd, ?ocpd⟩⟩
  case stat =>
    obtain ⟨write, read⟩ := access_io (addr := 0xFF41) (r := .stat) (by decide) s v d
    refine ⟨write, read.trans ((statByte_eq d _ _ _).trans ?_)⟩
    simp only [code, Ppu.lyMatches, beq_iff_eq]
  case lyc =>
    obtain ⟨write, read⟩ := access_io (addr := 0xFF45) (r := .lyc) (by decide) s v d
    rw [write]
    exact ⟨rfl, lycRose_iff s.ppu v, read⟩
  case vbk =>
    obtain ⟨write, read⟩ := access_colourIo (addr := 0xFF4F) (r := .vbk) (by decide) hc v d
    refine ⟨write, read.trans ((highBits_append_eq (m := 7) (n := 1) d _).trans ?_)⟩
    cases s.ppu.vbk <;> rfl
  case bcps =>
    obtain ⟨write, read⟩ := access_colourIo (addr := 0xFF68) (r := .bcps) (by decide) hc v d
    exact ⟨write, read.trans (indexByte_eq d _ _)⟩
  case ocps =>
    obtain ⟨write, read⟩ := access_colourIo (addr := 0xFF6A) (r := .ocps) (by decide) hc v d
    exact ⟨write, read.trans (indexByte_eq d _ _)⟩
  case bcpd =>
    obtain ⟨write, read⟩ := access_colourIo (addr := 0xFF69) (r := .bcpd) (by decide) hc v d
    rw [write]
    exact ⟨read, fun hw => cell_setCell_same hw _ v, fun key hk => Memory.read_write_other v hk,
      PalIndex.afterWrite_index _, PalIndex.afterWrite_auto _⟩
  case ocpd =>
    obtain ⟨write, read⟩ := access_colourIo (addr := 0xFF6B) (r := .ocpd) (by decide) hc v d
    rw [write]
    exact ⟨read, fun hw => cell_setCell_same hw _ v, fun key hk => Memory.read_write_other v hk,
      PalIndex.afterWrite_index _, PalIndex.afterWrite_auto _⟩

/-! ### The LCD switch, 60_exceptions.md R501 and R518 -/

theorem writeLcdc_off {p : Ppu} {v : Byte} (h : v.toNat < 0x80) :
    p.writeLcdc v = { p with lcdc := v, ly := 0, dot := 0, mode := .hblank } :=
  if_pos (by rw [bitSeven_clear h]; rfl)

theorem writeLcdc_starts {p : Ppu} {v : Byte} (h : 0x80 ≤ v.toNat) (hp : p.lcdc.toNat < 0x80) :
    p.writeLcdc v = { p with lcdc := v, ly := 0, dot := 0, mode := .oamSearch } := by
  rw [Ppu.writeLcdc, Ppu.lcdOn, bitSeven_set h, bitSeven_clear hp]
  rfl

theorem writeLcdc_on {p : Ppu} {v : Byte} (h : 0x80 ≤ v.toNat) (hp : 0x80 ≤ p.lcdc.toNat) :
    p.writeLcdc v = { p with lcdc := v } := by
  rw [Ppu.writeLcdc, Ppu.lcdOn, bitSeven_set h, bitSeven_set hp]
  rfl

theorem writeLcdc_frame (p : Ppu) (v : Byte) : p.writeLcdc v =
    { p with lcdc := v, ly := (p.writeLcdc v).ly, dot := (p.writeLcdc v).dot, mode := (p.writeLcdc v).mode } := by
  unfold Ppu.writeLcdc
  split_ifs <;> rfl

/-- The picture is cleared exactly when the write switches a running LCD off. -/
theorem clears_eq (p : Ppu) (v : Byte) :
    (p.lcdOn && !v.getLsbD 7) = decide (0x80 ≤ p.lcdc.toNat ∧ v.toNat < 0x80) := by
  rw [Bool.eq_iff_iff, Ppu.lcdOn, getLsbD_seven_eq, getLsbD_seven_eq]
  simp only [Bool.and_eq_true, Bool.not_eq_true', decide_eq_true_eq, decide_eq_false_iff_not, not_le]

/-- Settles O52: the write is `Ppu.writeLcdc` in its three cases, and the host's picture as `clears_eq` says. -/
theorem lcdSwitch : Obligations.LcdSwitch := by
  unfold Obligations.LcdSwitch
  intro s v t
  have write : t = { s with ppu := s.ppu.writeLcdc v
                            sched := s.sched.afterClear (decide (0x80 ≤ s.ppu.lcdc.toNat ∧ v.toNat < 0x80)) } := by
    rw [← clears_eq]
    exact (access_io (r := .lcdc) (by decide) s v 0).1
  have stays (h : 0x80 ≤ v.toNat) : decide (0x80 ≤ s.ppu.lcdc.toNat ∧ v.toNat < 0x80) = false :=
    decide_eq_false fun hc => by omega
  have lcdc : (s.ppu.writeLcdc v).lcdc = v := by rw [writeLcdc_frame]
  rw [write]
  refine ⟨lcdc, rfl, fun h => ?off, fun h => by rw [stays h]; rfl, fun h hp => ?starts, fun h hp => ?on, ?frame⟩
  case off =>
    rw [writeLcdc_off h]
    rw [Sched.afterClear_frame]
    refine ⟨rfl, rfl, rfl, ?_, ?_⟩ <;> simp only [h, and_true, decide_eq_true_eq, screenSize]
  case starts =>
    rw [writeLcdc_starts h hp]
    exact ⟨rfl, rfl, rfl⟩
  case on => rw [stays h, writeLcdc_on h hp]; rfl
  case frame =>
    rw [← writeLcdc_frame]
    unfold Sched.afterClear
    split_ifs <;> rfl

/-! ### The VRAM DMA registers, 60_exceptions.md R493 and R496 -/

/-- The blocks of 16 bytes that remain, less one, in seven bits. -/
theorem remainingBlocks_toNat (x : BitVec 16) :
    (0#1 ++ (x / 16 - 1).extractLsb' 0 7 : BitVec (1 + 7)).toNat = (x.toNat / 16 + 127) % 128 := by
  have := x.isLt
  simp only [toNat_append_eq_add, lowBits_toNat, BitVec.ofNat_eq_ofNat, BitVec.toNat_sub, BitVec.toNat_udiv, BitVec.toNat_ofNat,
    Nat.reducePow, Nat.reduceMod]
  omega

theorem highNibble_toNat (x : Byte) : (x.extractLsb' 4 4).toNat = x.toNat / 16 := by
  have := x.isLt
  rw [BitVec.extractLsb'_toNat, Nat.shiftRight_eq_div_pow]
  omega

theorem hdmaStart_fields (g : Dma) (v : Byte) :
    (hdmaStart g v).kind = (if v.toNat < 0x80 then .general else .hblank) ∧
    (hdmaStart g v).src.toNat = g.hdma1.toNat * 256 + g.hdma2.toNat / 16 * 16 ∧
    (hdmaStart g v).dst.toNat = 0x8000 + g.hdma3.toNat % 32 * 256 + g.hdma4.toNat / 16 * 16 ∧
    (hdmaStart g v).remaining.toNat = (v.toNat % 128 + 1) * 16 := by
  have kind : (hdmaStart g v).kind = if v.getLsbD 7 then .hblank else .general := rfl
  have hi3 : (g.hdma3.extractLsb' 0 5).toNat = g.hdma3.toNat % 32 := lowBits_toNat g.hdma3 5
  have hi4 : (g.hdma4.extractLsb' 4 4).toNat = g.hdma4.toNat / 16 := highNibble_toNat g.hdma4
  have hi2 : (g.hdma2.extractLsb' 4 4).toNat = g.hdma2.toNat / 16 := highNibble_toNat g.hdma2
  refine ⟨?_, ?_, ?_, ?_⟩
  · rw [kind, getLsbD_seven_eq]
    by_cases h : v.toNat < 0x80
    · simp [h, not_le.mpr h]
    · simp [h, not_lt.mp h]
  · simp only [hdmaStart, toNat_append_eq_add, hi2, BitVec.toNat_ofNat]
    omega
  · simp only [hdmaStart, BitVec.toNat_add, toNat_append_eq_add, hi3, hi4, BitVec.toNat_ofNat]
    omega
  · simp only [hdmaStart, BitVec.ofNat_eq_ofNat, BitVec.toNat_mul, BitVec.toNat_add, BitVec.toNat_setWidth, lowBits_toNat,
      BitVec.toNat_ofNat]
    omega

/-- Settles O47: the latches by `access_colourIo`, HDMA5's two writes by `Dma.writeHdma5` and its read by
`remainingBlocks_toNat`. -/
theorem vramDmaRegisters : Obligations.VramDmaRegisters := by
  unfold Obligations.VramDmaRegisters
  intro s v d hc
  obtain ⟨write, read⟩ := access_colourIo (addr := 0xFF55) (r := .hdma5) (by decide) hc v d
  have reads (x : VramXfer) (hx : s.dma.vram = some x) :
      (peek d 0xFF55 s).toNat = (x.remaining.toNat / 16 + 127) % 128 := by
    rw [read, ← remainingBlocks_toNat]
    simp only [ioRead, hx]
  obtain ⟨write1, read1⟩ := access_colourIo (addr := 0xFF51) (r := .hdma1) (by decide) hc v d
  obtain ⟨write2, read2⟩ := access_colourIo (addr := 0xFF52) (r := .hdma2) (by decide) hc v d
  obtain ⟨write3, read3⟩ := access_colourIo (addr := 0xFF53) (r := .hdma3) (by decide) hc v d
  obtain ⟨write4, read4⟩ := access_colourIo (addr := 0xFF54) (r := .hdma4) (by decide) hc v d
  refine ⟨write1, write2, write3, write4, read1, read2, read3, read4, fun hx => ?_, fun x hx pos le aligned => ?_, reads,
    fun x hx hk hv => ?_, fun starts => ⟨hdmaStart s.dma v, ?_, ?_⟩⟩
  · rw [read]
    simp only [ioRead, hx]
    rfl
  · rw [reads x hx]
    omega
  · have stop : x.kind = .hblank ∧ (!v.getLsbD 7) = true := ⟨hk, by rw [bitSeven_clear hv]; rfl⟩
    rw [write]
    simp only [ioWrite, Dma.writeHdma5, hx, if_pos stop]
  · rw [write]
    simp only [ioWrite, Dma.writeHdma5]
    split
    case h_1 x hx =>
      have goesOn : ¬ (x.kind = .hblank ∧ (!v.getLsbD 7) = true) := fun ⟨hk, hv⟩ => by
        rw [bitSeven_set (starts x hx hk)] at hv
        cases hv
      rw [if_neg goesOn]
    case h_2 => rfl
  · obtain ⟨kind, src, dst, remaining⟩ := hdmaStart_fields s.dma v
    exact ⟨kind, src, dst, remaining, rfl⟩

/-! ### The sound registers, 60_exceptions.md R530 to R533 -/

/-- The place is a sound address whose read is a draw. -/
def Loc.readsOpen (l : Loc) : Bool :=
  match l with
  | .soundUnused _ => true
  | .io (.apu r) => decide (r ≠ .nr52)
  | _ => false

theorem peek_readsOpen {d : Byte} (h : (locate s addr).readsOpen = true) : peek d addr s = d := by
  unfold Loc.readsOpen at h
  split at h
  case h_1 place => unfold peek; rw [place]
  case h_2 r place =>
    rw [peek_io place]
    cases r with
    | nr52 => cases h
    | _ => rfl
  case h_3 => cases h

theorem ioLoc_sound (color : Bool) : ∀ k : Fin 0x20, k.val ≠ 0x16 → (ioLoc color (0xFF10 + k.val)).readsOpen = true := by
  cases color <;> decide +kernel

theorem ioLoc_wave (color : Bool) : ∀ k : Fin 0x10, ioLoc color (0xFF30 + k.val) = .ram (0xFF30 + k.val) := by
  cases color <;> decide +kernel

theorem Apu.batch_off {u : Apu} (h : u.nr52.getLsbD 7 = false) (n : Nat) : u.batch n = u := by
  have off (c : Chan) : u.runs c = false := by rw [Apu.runs, Apu.power, h, Bool.false_and, Bool.false_and]
  simp only [Apu.batch, Apu.stepChannel_gated (off _)]

theorem Apu.runs_gated {u : Apu} {c : Chan} (h : u.nr52.getLsbD 7 = false ∨ u.nr52.getLsbD (channelBit c) = false ∨
    (u.nr51.getLsbD (channelBit c) = false ∧ u.nr51.getLsbD (channelBit c + 4) = false)) : u.runs c = false := by
  unfold Apu.runs Apu.power Apu.enabled Apu.panned
  rcases h with h | h | ⟨h, h'⟩
  · rw [h, Bool.false_and, Bool.false_and]
  · rw [h, Bool.and_false, Bool.false_and]
  · rw [h, h', Bool.or_false, Bool.and_false]

theorem freq_roundTrip (x : BitVec 11) :
    freqOfBytes (freqBytes x).1 (freqBytes x).2 = x ∧ freqRegister (freqDenominator x) = x := by
  constructor
  · exact (BitVec.extractLsb'_append_extractLsb'_eq_extractLsb' (x := x) (start₁ := 0) (len₁ := 8) (start₂ := 8)
      (len₂ := 3) rfl).trans BitVec.extractLsb'_eq_self
  · have := x.isLt
    rw [freqRegister, freqDenominator, Nat.sub_sub_self (by omega), BitVec.ofNat_toNat, BitVec.setWidth_eq]

/-- Settles O54: the three kinds of sound address by where `ioLoc` puts them, the gating by `Apu.stepChannel_gated`. -/
theorem apuRegisters : Obligations.ApuRegisters := by
  unfold Obligations.ApuRegisters
  refine ⟨fun s addr v d low high => ⟨fun wave hw => ?wave, fun ha => ?nr52, fun below ne => ?sound⟩, fun s v => ?stores,
    fun u n => ⟨fun h => Apu.batch_off h n, fun h => Apu.stepChannel_gated (Apu.runs_gated h) ..,
      fun h => Apu.stepChannel_gated (Apu.runs_gated h) .., fun h => Apu.stepChannel_gated (Apu.runs_gated h) ..,
      fun h => Apu.stepChannel_gated (Apu.runs_gated h) .., rfl⟩, freq_roundTrip⟩
  case wave =>
    have place : locate s addr = .ram addr.toNat := by
      have table := ioLoc_wave s.launch.colorMode ⟨addr.toNat - 0xFF30, by omega⟩
      rw [locate_io (by omega) (by omega)]
      simpa only [Nat.add_sub_cancel' wave] using table
    rw [poke_ram place]
    exact ⟨peek_setCell hw place, rfl⟩
  case nr52 =>
    have h : ioRow addr.toNat (.apu .nr52) ∈ ioMap := by rw [ha]; decide
    obtain ⟨write, read⟩ := access_io h s v d
    exact ⟨read.trans (powerByte_eq d s.apu.nr52), write⟩
  case sound =>
    have table := ioLoc_sound s.launch.colorMode ⟨addr.toNat - 0xFF10, by omega⟩ (by simp only; omega)
    refine peek_readsOpen ?_
    rw [locate_io (by omega) (by omega)]
    simpa only [Nat.add_sub_cancel' low] using table
  case stores =>
    have stored {addr : Word} {r : ApuReg} (h : ioRow addr.toNat (.apu r) ∈ ioMap) :
        (poke addr v s).apu = s.apu.write r v := by rw [(access_io h s v 0).1]; rfl
    exact ⟨congrArg Apu.nr10 (stored (r := .nr10) (by decide)), congrArg Apu.nr11 (stored (r := .nr11) (by decide)),
      congrArg Apu.nr12 (stored (r := .nr12) (by decide)), congrArg Apu.nr13 (stored (r := .nr13) (by decide)),
      congrArg Apu.nr14 (stored (r := .nr14) (by decide)), congrArg Apu.nr21 (stored (r := .nr21) (by decide)),
      congrArg Apu.nr22 (stored (r := .nr22) (by decide)), congrArg Apu.nr23 (stored (r := .nr23) (by decide)),
      congrArg Apu.nr24 (stored (r := .nr24) (by decide)), congrArg Apu.nr30 (stored (r := .nr30) (by decide)),
      congrArg Apu.nr31 (stored (r := .nr31) (by decide)), congrArg Apu.nr32 (stored (r := .nr32) (by decide)),
      congrArg Apu.nr33 (stored (r := .nr33) (by decide)), congrArg Apu.nr34 (stored (r := .nr34) (by decide)),
      congrArg Apu.nr41 (stored (r := .nr41) (by decide)), congrArg Apu.nr42 (stored (r := .nr42) (by decide)),
      congrArg Apu.nr43 (stored (r := .nr43) (by decide)), congrArg Apu.nr44 (stored (r := .nr44) (by decide)),
      congrArg Apu.nr50 (stored (r := .nr50) (by decide)), congrArg Apu.nr51 (stored (r := .nr51) (by decide))⟩

end Sys2Proof.Machine
end

section
/-! PROOF. The timer, the joypad, the frame accounting and the OAM search, 60_exceptions.md sections 4, 6, 8 and 9. -/

namespace Sys2Proof.Machine

/-! ### The timer, R481 to R485 -/

/-- DIV with its sub-counter counts timer steps, whatever TAC holds. -/
theorem Timer.step_div (t : Timer) :
    t.step.div.toNat * 256 + t.step.divSub.toNat = (t.div.toNat * 256 + t.divSub.toNat + 1) % 65536 := by
  obtain ⟨div, divSub, -, -⟩ := Timer.stepTima_frame t.stepDiv
  have := t.div.isLt
  have := t.divSub.isLt
  rw [Timer.step, div, divSub, Timer.stepDiv]
  split_ifs with wraps
  · have sum : (t.div + 1).toNat = (t.div.toNat + 1) % 256 := BitVec.toNat_add t.div 1
    change (t.div + 1).toNat * 256 + 0 = _
    rw [sum]
    omega
  · have sum : (t.divSub + 1).toNat = (t.divSub.toNat + 1) % 256 := BitVec.toNat_add t.divSub 1
    change t.div.toNat * 256 + (t.divSub + 1).toNat = _
    rw [sum]
    omega

theorem Timer.steps_div (t : Timer) (n : Nat) : (Timer.step^[n] t).div.toNat * 256 + (Timer.step^[n] t).divSub.toNat =
    (t.div.toNat * 256 + t.divSub.toNat + n) % 65536 := by
  induction n with
  | zero =>
    have := t.div.isLt
    have := t.divSub.isLt
    simp only [Function.iterate_zero, id_eq]
    omega
  | succ n ih =>
    rw [Function.iterate_succ_apply', Timer.step_div, ih]
    omega

theorem Timer.steps_frame (t : Timer) (n : Nat) : (Timer.step^[n] t).tac = t.tac ∧ (Timer.step^[n] t).tma = t.tma := by
  induction n with
  | zero => exact ⟨rfl, rfl⟩
  | succ n ih =>
    obtain ⟨tac, tma⟩ := Timer.step_frame (Timer.step^[n] t)
    rw [Function.iterate_succ_apply']
    exact ⟨tac.trans ih.1, tma.trans ih.2⟩

theorem Timer.step_disabled {t : Timer} (h : t.tac.getLsbD 2 = false) :
    t.step.tima = t.tima ∧ t.step.timaSub = t.timaSub := by
  obtain ⟨tima, timaSub, tac, -⟩ := Timer.stepDiv_frame t
  rw [Timer.step, Timer.stepTima, tac, h]
  exact ⟨tima, timaSub⟩

theorem Timer.steps_disabled {t : Timer} (h : t.tac.getLsbD 2 = false) (n : Nat) :
    (Timer.step^[n] t).tima = t.tima ∧ (Timer.step^[n] t).timaSub = t.timaSub := by
  induction n with
  | zero => exact ⟨rfl, rfl⟩
  | succ n ih =>
    obtain ⟨tima, timaSub⟩ := Timer.step_disabled ((congrArg (·.getLsbD 2) (Timer.steps_frame t n).1).trans h)
    rw [Function.iterate_succ_apply']
    exact ⟨tima.trans ih.1, timaSub.trans ih.2⟩

/-- The four periods of TIMA. -/
theorem Timer.period_cases (tac : BitVec 3) :
    Timer.period tac = 1024 ∨ Timer.period tac = 16 ∨ Timer.period tac = 64 ∨ Timer.period tac = 256 := by
  revert tac
  decide

/-- TIMA in one step of an enabled timer, below and at the end of a period. -/
theorem Timer.step_enabled {t : Timer} (h : t.tac.getLsbD 2 = true) :
    (t.timaSub.toNat + 1 < Timer.period t.tac → t.step.tima = t.tima ∧ t.step.timaSub.toNat = t.timaSub.toNat + 1) ∧
    (Timer.period t.tac ≤ t.timaSub.toNat + 1 →
      t.step.tima = (if t.tima = 0xFF#8 then t.tma else t.tima + 1) ∧ t.step.timaSub = 0#10) := by
  obtain ⟨tima, timaSub, tac, tma⟩ := Timer.stepDiv_frame t
  have bound := Timer.period_cases t.tac
  rw [Timer.step, Timer.stepTima, tac, tima, timaSub, tma, h, if_pos rfl]
  refine ⟨fun hlt => ?_, fun hge => ?_⟩
  · rw [if_neg (by omega)]
    refine ⟨rfl, (BitVec.toNat_add t.timaSub 1).trans (Nat.mod_eq_of_lt ?_)⟩
    change t.timaSub.toNat + 1 < 1024
    omega
  · rw [if_pos hge]
    exact ⟨rfl, rfl⟩

theorem Timer.steps_enabled {t : Timer} (h : t.tac.getLsbD 2 = true) (hsub : t.timaSub = 0#10) (htma : t.tma = 0#8)
    (n : Nat) : (Timer.step^[n] t).tima.toNat = (t.tima.toNat + n / Timer.period t.tac) % 256 ∧
      (Timer.step^[n] t).timaSub.toNat = n % Timer.period t.tac := by
  have bound := Timer.period_cases t.tac
  induction n with
  | zero =>
    rw [Function.iterate_zero, id_eq, hsub, Nat.zero_div, Nat.zero_mod]
    exact ⟨(Nat.mod_eq_of_lt t.tima.isLt).symm, rfl⟩
  | succ n ih =>
    obtain ⟨tac, tma⟩ := Timer.steps_frame t n
    rw [Function.iterate_succ_apply']
    generalize Timer.step^[n] t = u at *
    obtain ⟨below, reached⟩ := Timer.step_enabled (t := u) (by rw [tac, h])
    rw [tac] at below reached
    rw [tma, htma] at reached
    have next : (if u.tima = 0xFF#8 then 0#8 else u.tima + 1).toNat = (u.tima.toNat + 1) % 256 := by
      split_ifs with hff
      · rw [hff]
        rfl
      · exact BitVec.toNat_add u.tima 1
    by_cases hge : Timer.period t.tac ≤ u.timaSub.toNat + 1
    · obtain ⟨tima, sub⟩ := reached hge
      rw [tima, sub, next]
      simp only [BitVec.toNat_ofNat]
      rcases bound with hp | hp | hp | hp <;> rw [hp] at ih hge ⊢ <;> omega
    · obtain ⟨tima, sub⟩ := below (not_le.mp hge)
      rw [tima, sub]
      rcases bound with hp | hp | hp | hp <;> rw [hp] at ih hge ⊢ <;> omega

/-- Settles O44: DIV by `Timer.steps_div`, TIMA by `Timer.steps_enabled` and `Timer.steps_disabled`. -/
theorem timerRate : Obligations.TimerRate := by
  unfold Obligations.TimerRate
  intro t n u period
  have periodEq : Timer.period t.tac = period := Timer.period_eq t.tac
  refine ⟨fun h => ?_, fun h => Timer.steps_disabled h n, fun h hsub htma => periodEq ▸ Timer.steps_enabled h hsub htma n,
    (Timer.steps_frame t n).1, (Timer.steps_frame t n).2⟩
  have count := Timer.steps_div t n
  have divBound := u.div.isLt
  have subBound := u.divSub.isLt
  change u.div.toNat * 256 + u.divSub.toNat = _ at count
  rw [h] at count
  simp only [BitVec.toNat_ofNat] at count
  omega

theorem getLsbD_two_eq (x : BitVec 3) : x.getLsbD 2 = decide (4 ≤ x.toNat) := by
  revert x
  decide

theorem Timer.overflows_iff (t : Timer) : t.overflows = true ↔
    4 ≤ t.tac.toNat ∧ Timer.period t.tac ≤ t.timaSub.toNat + 1 ∧ t.tima = 0xFF#8 := by
  simp only [Timer.overflows, Timer.due, getLsbD_two_eq, Bool.and_eq_true, decide_eq_true_eq, beq_iff_eq, ge_iff_le,
    and_assoc]

/-- A step of TIMA that does not overflow moves it by at most one. -/
theorem Timer.step_tima_of_not_overflows {t : Timer} (h : ¬ t.overflows = true) :
    t.step.tima = t.tima ∨ t.step.tima.toNat = t.tima.toNat + 1 := by
  rw [Timer.overflows_iff] at h
  cases on : t.tac.getLsbD 2
  case false => exact .inl (Timer.step_disabled on).1
  case true =>
    obtain ⟨below, reached⟩ := Timer.step_enabled on
    rw [getLsbD_two_eq, decide_eq_true_eq] at on
    by_cases hge : Timer.period t.tac ≤ t.timaSub.toNat + 1
    · have notFull : t.tima ≠ 0xFF#8 := fun hff => h ⟨on, hge, hff⟩
      have sum : (t.tima + 1).toNat = (t.tima.toNat + 1) % 256 := BitVec.toNat_add t.tima 1
      have room : t.tima.toNat + 1 < 256 := by bv_omega
      rw [(reached hge).1, if_neg notFull, sum, Nat.mod_eq_of_lt room]
      exact .inr rfl
    · exact .inl (below (not_le.mp hge)).1

/-- Settles O45: the condition is `Timer.overflows_iff`, the reload the end of a period in `Timer.step_enabled`. -/
theorem timerOverflow : Obligations.TimerOverflow := by
  unfold Obligations.TimerOverflow
  intro s period overflow
  have iff : s.timer.overflows = true ↔ overflow := by
    rw [Timer.overflows_iff, Timer.period_eq]
  have timer : (timerStep s).timer = s.timer.step := rfl
  have request : (timerStep s).iflag = (s.raiseIf s.timer.overflows .timer).iflag := rfl
  refine ⟨fun h => ?_, fun h => ?_, timerStep_frame s⟩
  · obtain ⟨on, hge, hff⟩ := h
    obtain ⟨-, reached⟩ := Timer.step_enabled (t := s.timer) (by rw [getLsbD_two_eq, decide_eq_true on])
    obtain ⟨tima, sub⟩ := reached (by rw [Timer.period_eq]; exact hge)
    rw [timer, request, tima, sub, iff.mpr ⟨on, hge, hff⟩, if_pos hff]
    exact ⟨rfl, rfl, rfl⟩
  · have no : ¬ s.timer.overflows = true := h ∘ iff.mp
    refine ⟨?_, Timer.step_tima_of_not_overflows no⟩
    rw [request, Bool.eq_false_iff.mpr no]
    rfl

/-! ### The joypad, R550 to R553 -/

theorem exists_bit_iff {w : Nat} (x : BitVec w) : x ≠ 0#w ↔ ∃ k, k < w ∧ x.getLsbD k = true := by
  constructor
  · intro h
    by_contra hn
    refine h (BitVec.eq_of_getLsbD_eq fun k hk => ?_)
    rw [BitVec.getLsbD_zero]
    exact Bool.eq_false_iff.mpr fun hb => hn ⟨k, hk, hb⟩
  · rintro ⟨k, -, hb⟩ rfl
    rw [BitVec.getLsbD_zero] at hb
    cases hb

theorem Pad.falls_iff (p : Pad) :
    p.falls = true ↔ ∃ k, k < 4 ∧ p.prevLines.getLsbD k = true ∧ p.lines.getLsbD k = false := by
  rw [Pad.falls, decide_eq_true_eq, exists_bit_iff]
  refine exists_congr fun k => and_congr_right fun hk => ?_
  simp [hk]

theorem Pad.lines_bit (p : Pad) {k : Nat} (hk : k < 4) : p.lines.getLsbD k =
    !((!p.select.getLsbD 0 && [p.buttons.right, p.buttons.left, p.buttons.up, p.buttons.down].getD k false) ||
      (!p.select.getLsbD 1 && [p.buttons.a, p.buttons.b, p.buttons.select, p.buttons.start].getD k false)) := by
  have directions : p.buttons.directions.getLsbD k =
      [p.buttons.right, p.buttons.left, p.buttons.up, p.buttons.down].getD k false := by
    unfold Buttons.directions
    interval_cases k <;> (simp only [BitVec.getLsbD_append]; simp)
  have actions : p.buttons.actions.getLsbD k =
      [p.buttons.a, p.buttons.b, p.buttons.select, p.buttons.start].getD k false := by
    unfold Buttons.actions
    interval_cases k <;> (simp only [BitVec.getLsbD_append]; simp)
  rw [Pad.lines, BitVec.getLsbD_not, BitVec.getLsbD_or, ← directions, ← actions]
  cases p.select.getLsbD 0 <;> cases p.select.getLsbD 1 <;> simp [hk]

theorem beginStep_pad (s : State) : (beginStep s).pad = s.pad.sample := by
  unfold beginStep promote
  split <;> rfl

/-- Settles O55: the lines by `Pad.lines_bit`, the request by `Pad.falls_iff`. -/
theorem joypadLinesAndInterrupt : Obligations.JoypadLinesAndInterrupt := by
  unfold Obligations.JoypadLinesAndInterrupt
  intro s p directions actions t
  refine ⟨fun k hk => Pad.lines_bit p hk, ?_, fun k hk => ?_, padStep_frame s, fun h => ?_, fun b rest h => ?_⟩
  · rw [padStep_bit, ← Pad.falls_iff]
    simp [p]
  · rw [padStep_bit]
    simp [hk]
  · rw [beginStep_pad, Pad.sample, h]
  · rw [beginStep_pad, Pad.sample, h]

/-! ### The frame accounting, R562 -/

/-- A batch of the sound processor changes nothing that a read shows. -/
theorem peek_batch (s : State) (n : Nat) (d : Byte) (b : Word) :
    peek d b { s with apu := s.apu.batch n } = peek d b s := by
  have place : locate { s with apu := s.apu.batch n } b = locate s b := locate_congr rfl rfl rfl b
  unfold peek
  rw [place]
  cases locate s b with
  | io r => cases r <;> rfl
  | _ => rfl

/-- Settles O57: below the budget the sum grows, at the budget the APU takes it. -/
theorem frameAccounting : Obligations.FrameAccounting := by
  unfold Obligations.FrameAccounting
  intro s total budget t
  have below (h : total < budget) : t = { s with sched := { s.sched with frameCycles := total } } := if_neg (not_le.mpr h)
  have reached (h : budget ≤ total) :
      t = { s with apu := s.apu.batch total
                   sched := { s.sched with frameCycles := 0, apuBatches := s.sched.apuBatches + 1 } } := if_pos h
  have positive : 0 < budget := by
    simp only [budget]
    split_ifs <;> omega
  refine ⟨below, reached, ?_, fun d b => ?_⟩ <;> rcases Nat.lt_or_ge total budget with h | h
  · rw [below h]
    exact h
  · rw [reached h]
    exact positive
  · rw [below h]
    exact peek_congr ⟨rfl, rfl, rfl, rfl, rfl, rfl, rfl, rfl, rfl, rfl, rfl, rfl⟩ d b
  · rw [reached h, ← peek_batch s total d b]
    exact peek_congr ⟨rfl, rfl, rfl, rfl, rfl, rfl, rfl, rfl, rfl, rfl, rfl, rfl⟩ d b

/-! ### The OAM search and the fetch unit, R508 and R510 -/

/-- The OAM indices of the sprites on a line, in ascending order. -/
def onLineIndices (oam : Nat → Byte) (ly : Nat) (lcdc : Byte) : List Nat :=
  (List.range 40).filter fun i => spriteOnLine (spriteAt oam i) ly (spriteHeight lcdc)

theorem oamSearch_indices (oam : Nat → Byte) (ly : Nat) (lcdc : Byte) :
    (oamSearch oam ly lcdc).map Sprite.index = (onLineIndices oam ly lcdc).take 10 := by
  have index : Sprite.index ∘ spriteAt oam = id := rfl
  rw [oamSearch, List.filter_map, ← List.map_take, List.map_map, index, List.map_id]
  rfl

theorem spriteOnLine_iff (s : Sprite) (ly height : Nat) : spriteOnLine s ly height = true ↔
    s.y.toNat ≤ ly + 16 ∧ ly + 16 < s.y.toNat + height ∧ 1 ≤ s.x.toNat ∧ s.x.toNat ≤ 168 := by
  simp only [spriteOnLine, Bool.and_eq_true, decide_eq_true_eq, and_assoc]

theorem pairwise_onLineIndices (oam : Nat → Byte) (ly : Nat) (lcdc : Byte) :
    (onLineIndices oam ly lcdc).Pairwise (· < ·) := List.Pairwise.filter _ List.pairwise_lt_range

/-- A member that is not among the first ten comes after ten smaller ones. -/
theorem full_of_notMem_take {l : List Nat} (sorted : l.Pairwise (· < ·)) {i : Nat} (mem : i ∈ l)
    (left : i ∉ l.take 10) : (l.take 10).length = 10 ∧ ∀ j, j ∈ l.take 10 → j < i := by
  have dropped : i ∈ l.drop 10 := by
    rw [← List.take_append_drop 10 l, List.mem_append] at mem
    exact mem.resolve_left left
  have long : 10 ≤ l.length := by
    have := List.length_pos_of_mem dropped
    rw [List.length_drop] at this
    omega
  rw [← List.take_append_drop 10 l, List.pairwise_append] at sorted
  exact ⟨by rw [List.length_take, min_eq_left long], fun j hj => sorted.2.2 j hj i dropped⟩

theorem getLsbD_two_byte_eq (v : Byte) : v.getLsbD 2 = decide (v.toNat / 4 % 2 = 1) := by
  simp [BitVec.getLsbD, Nat.testBit_eq_decide_div_mod_eq]

theorem TileFetch.steps_cycles (n : Nat) : (TileFetch.step^[n] TileFetch.start).cycles = n := by
  induction n with
  | zero => rfl
  | succ n ih => rw [Function.iterate_succ_apply', TileFetch.step, ih]

/-- Settles O53: the kept sprites are the first ten of the sorted indices on the line. -/
theorem oamSearchAndFetchUnit : Obligations.OamSearchAndFetchUnit := by
  unfold Obligations.OamSearchAndFetchUnit
  constructor
  · intro oam ly lcdc height onLine kept
    have keptEq : kept = (onLineIndices oam ly lcdc).take 10 := oamSearch_indices oam ly lcdc
    have heightEq : spriteHeight lcdc = height := by
      simp only [spriteHeight, getLsbD_two_byte_eq, decide_eq_true_eq, height]
    have memIff (i : Nat) : i ∈ onLineIndices oam ly lcdc ↔ i < 40 ∧ onLine i := by
      rw [onLineIndices, List.mem_filter, List.mem_range, spriteOnLine_iff, heightEq]
      rfl
    have sorted := pairwise_onLineIndices oam ly lcdc
    rw [keptEq]
    refine ⟨List.length_take_le 10 _, sorted.sublist (List.take_sublist 10 _), fun i hi => ?_, fun i hi hon left => ?_⟩
    · exact (memIff i).mp (List.mem_of_mem_take hi)
    · exact full_of_notMem_take sorted ((memIff i).mpr ⟨hi, hon⟩) left
  · intro n
    rw [TileFetch.ready, TileFetch.steps_cycles]

end Sys2Proof.Machine
end

section
/-! PROOF. The PPU's position and interrupts and the device phase, 60_exceptions.md sections 1, 2, 6 and 9: one step's facts,
then the same by induction on the number of steps. -/

namespace Sys2Proof.Machine

/-! ### One PPU step, R500 to R507 -/

/-- LY * 456 + dot, the position in the frame. -/
def Ppu.position (p : Ppu) : Nat := p.ly.toNat * 456 + p.dot

theorem Ppu.position_step {p : Ppu} (oam : Nat → Byte) (h : p.sound) (on : p.lcdOn = true) :
    (p.step oam).position = (p.position + 1) % 70224 := by
  obtain ⟨-, -, dot, ly⟩ := Ppu.step_on p oam h on
  obtain ⟨lines, dots, -⟩ := h
  rw [Ppu.position, Ppu.position, dot, ly]
  split_ifs <;> omega

theorem byte_eq_iff (x : Byte) {n : Nat} (hn : n < 256) : x = BitVec.ofNat 8 n ↔ x.toNat = n := by
  rw [← BitVec.toNat_inj, BitVec.toNat_ofNat, Nat.mod_eq_of_lt hn]

/-- A frame ends exactly when the position wraps. -/
theorem Ppu.endsFrame_step {p : Ppu} (oam : Nat → Byte) (h : p.sound) (on : p.lcdOn = true) :
    p.endsFrame (p.step oam) = decide (p.position + 1 = 70224) := by
  obtain ⟨-, -, -, ly⟩ := Ppu.step_on p oam h on
  obtain ⟨lines, dots, -⟩ := h
  rw [Ppu.endsFrame, on, Bool.true_and, ← Bool.decide_and, decide_eq_decide, byte_eq_iff _ (by decide),
    byte_eq_iff _ (by decide), ly, Ppu.position]
  split_ifs <;> omega

/-- VBlank is entered exactly at the end of line 143. -/
theorem Ppu.entersVblank_step {p : Ppu} (oam : Nat → Byte) (h : p.sound) :
    p.entersVblank (p.step oam) = true ↔ p.lcdOn = true ∧ p.ly.toNat = 143 ∧ p.dot = 455 := by
  cases on : p.lcdOn
  case false => simp [Ppu.entersVblank, on]
  case true =>
    obtain ⟨-, -, -, ly⟩ := Ppu.step_on p oam h on
    obtain ⟨lines, dots, -⟩ := h
    simp only [Ppu.entersVblank, on, Bool.true_and, Bool.and_eq_true, decide_eq_true_eq, ne_eq, true_and]
    rw [byte_eq_iff _ (by decide), byte_eq_iff _ (by decide), ly]
    split_ifs <;> omega

/-- The mode a sound PPU shows with the LCD on is the one of its position. -/
theorem Ppu.mode_of_sound {p : Ppu} (h : p.sound) (on : p.lcdOn = true) :
    (144 ≤ p.ly.toNat ↔ p.mode = .vblank) ∧
    (p.ly.toNat < 144 →
      (p.dot < 80 ↔ p.mode = .oamSearch) ∧
      (80 ≤ p.dot → p.dot < 248 → p.mode = .pixelTransfer) ∧
      (248 ≤ p.dot → p.dot < 371 → p.mode = .pixelTransfer ∨ p.mode = .hblank) ∧
      (371 ≤ p.dot → p.mode = .hblank)) := by
  obtain ⟨-, -, low, high, mode⟩ := h
  rw [if_pos on] at mode
  rw [mode, modeAt]
  split_ifs <;> simp <;> omega

/-! ### The steps of the PPU -/

/-- What the PPU's steps change of the machine. -/
def PpuFrame (s t : State) : Prop :=
  t = { s with ppu := t.ppu, iflag := t.iflag,
               sched := { s.sched with frames := t.sched.frames, announced := t.sched.announced } }

theorem PpuFrame.trans {s t u : State} (h : PpuFrame s t) (h' : PpuFrame t u) : PpuFrame s u := by
  unfold PpuFrame at *
  rw [h', h]

theorem ppuStep_ppuFrame (s : State) : PpuFrame s (ppuStep s) := by
  unfold PpuFrame
  rw [ppuStep_frame, Sched.afterFrame_frame]

theorem ppuStep_sched {s : State} (h : s.ppu.sound) (on : s.ppu.lcdOn = true) :
    (ppuStep s).sched.frames = s.sched.frames + (if s.ppu.position + 1 = 70224 then 1 else 0) ∧
    (ppuStep s).sched.announced = (if s.ppu.position + 1 = 70224 then some screenSize else s.sched.announced) := by
  have sched : (ppuStep s).sched = s.sched.afterFrame (s.ppu.endsFrame (s.ppu.step s.oamByte)) := by rw [ppuStep_frame]
  rw [sched, Sched.afterFrame_frame, Ppu.endsFrame_step _ h on]
  simp only [decide_eq_true_eq]
  exact ⟨trivial, trivial⟩

/-- The invariant of `PpuPosition`: the PPU stays sound and on, its position, the frames and the announced size follow the
number of steps, and nothing else changes. -/
structure AfterPpuSteps (s : State) (n : Nat) (t : State) : Prop where
  sound : t.ppu.sound
  on : t.ppu.lcdOn = true
  position : t.ppu.position = (s.ppu.position + n) % 70224
  frames : t.sched.frames = s.sched.frames + (s.ppu.position + n) / 70224
  announced : t.sched.announced = if s.ppu.position + n < 70224 then s.sched.announced else some screenSize
  frame : PpuFrame s t

theorem Ppu.position_lt {p : Ppu} (h : p.sound) : p.position < 70224 := by
  obtain ⟨lines, dots, -⟩ := h
  unfold Ppu.position
  omega

theorem afterPpuSteps {s : State} (h : s.ppu.sound) (on : s.ppu.lcdOn = true) (n : Nat) :
    AfterPpuSteps s n (ppuStep^[n] s) := by
  have bound := Ppu.position_lt h
  induction n with
  | zero =>
    rw [Function.iterate_zero, id_eq]
    refine ⟨h, on, ?_, ?_, ?_, rfl⟩
    · rw [Nat.add_zero, Nat.mod_eq_of_lt bound]
    · rw [Nat.add_zero, Nat.div_eq_of_lt bound, Nat.add_zero]
    · rw [Nat.add_zero, if_pos bound]
  | succ n ih =>
    rw [Function.iterate_succ_apply']
    generalize ppuStep^[n] s = t at *
    obtain ⟨frames, announced⟩ := ppuStep_sched ih.sound ih.on
    have ppu : (ppuStep t).ppu = t.ppu.step t.oamByte := by rw [ppuStep_frame]
    obtain ⟨sound', on', -, -⟩ := Ppu.step_on t.ppu t.oamByte ih.sound ih.on
    refine ⟨ppu ▸ sound', ppu ▸ on', ?_, ?_, ?_, ih.frame.trans (ppuStep_ppuFrame t)⟩
    · rw [ppu, Ppu.position_step _ ih.sound ih.on, ih.position]
      omega
    · rw [frames, ih.frames, ih.position]
      split_ifs <;> omega
    · rw [announced, ih.announced, ih.position]
      split_ifs <;> first | rfl | omega

/-- Settles O50: `afterPpuSteps`, with the line and dot read off the position and the mode off the soundness. -/
theorem ppuPosition : Obligations.PpuPosition := by
  unfold Obligations.PpuPosition
  intro s n h on p t
  have after : AfterPpuSteps s n t := afterPpuSteps h on n
  obtain ⟨lines, dots, -⟩ := after.sound
  have position : t.ppu.ly.toNat * 456 + t.ppu.dot = p % 70224 := after.position
  obtain ⟨vblank, modes⟩ := Ppu.mode_of_sound after.sound after.on
  refine ⟨by omega, by omega, after.frames, after.announced, after.sound, vblank, modes, after.frame⟩

/-! ### The PPU's interrupts, R503, R506 and R518 -/

theorem Ppu.raisesStat_iff (p q : Ppu) (b : Bool) : p.raisesStat q b = true ↔ p.lcdOn = true ∧
    (((p.mode ≠ .hblank ∧ q.mode = .hblank) ∧ p.statEnables.getLsbD 0 = true) ∨
      ((p.mode ≠ .vblank ∧ q.mode = .vblank) ∧ p.statEnables.getLsbD 1 = true) ∨
      ((p.mode ≠ .oamSearch ∧ q.mode = .oamSearch) ∧ p.statEnables.getLsbD 2 = true) ∨
      (b = true ∧ p.statEnables.getLsbD 3 = true ∧ (p.lycRose = true ∨ (p.ly ≠ p.lyc ∧ q.ly = q.lyc)))) := by
  simp only [Ppu.raisesStat, Ppu.coincides, Ppu.lyMatches, Bool.and_eq_true, Bool.or_eq_true, Bool.not_eq_true',
    decide_eq_true_eq, beq_iff_eq, beq_eq_false_iff_ne, or_assoc, and_assoc]

/-- Settles O51: `ppuStep_bit` with the conditions of `Ppu.entersVblank_step` and `Ppu.raisesStat_iff`. -/
theorem ppuInterrupts : Obligations.PpuInterrupts := by
  unfold Obligations.PpuInterrupts
  intro s t into enable coincides stat
  have ppu : t.ppu = s.ppu.step s.oamByte := by
    simp only [t]
    rw [ppuStep_frame]
  obtain ⟨lyc, -, lycRose⟩ := Ppu.step_frame s.ppu s.oamByte
  rw [← ppu] at lyc lycRose
  have statIff : s.ppu.raisesStat (s.ppu.step s.oamByte) s.launch.statLycInterrupt = true ↔ s.ppu.lcdOn = true ∧ stat := by
    rw [← ppu]
    exact Ppu.raisesStat_iff ..
  refine ⟨fun h => ?vblank, ?stat, fun k hk => ?others, lycRose, lyc, fun off => ?off⟩
  case vblank =>
    rw [ppuStep_bit, ← Ppu.entersVblank_step s.oamByte h]
    simp
  case stat =>
    rw [ppuStep_bit, ← statIff]
    simp
  case others =>
    rw [ppuStep_bit, decide_eq_false (by omega), decide_eq_false (by omega)]
    simp
  case off =>
    simp only [t, ppuStep, Ppu.entersVblank, Ppu.raisesStat, Ppu.endsFrame, off, Bool.false_and, Ppu.step_off _ _ off]
    rfl

/-! ### The device phase, R560 and R561 -/

/-- A trace with one state in front. -/
def consTrace (s : State) (u : Nat → State) : Nat → State
  | 0 => s
  | c + 1 => u c

theorem deviceCycles_next_iff (n : Nat) (s t : State) : deviceCycles n s = .next t ↔
    ∃ u : Nat → State, u 0 = s ∧ u n = t ∧ ∀ c, c < n → deviceCycle (u c) = .next (u (c + 1)) := by
  induction n generalizing s with
  | zero =>
    constructor
    · intro h
      cases h
      exact ⟨fun _ => t, rfl, rfl, fun _ hc => absurd hc (Nat.not_lt_zero _)⟩
    · rintro ⟨u, start, last, -⟩
      rw [← start, last]
      rfl
  | succ n ih =>
    constructor
    · intro h
      obtain ⟨s1, first, rest⟩ := andThen_eq_next h
      obtain ⟨u, start, last, run⟩ := (ih s1).mp rest
      refine ⟨consTrace s u, rfl, last, fun c hc => ?_⟩
      cases c with
      | zero => exact first.trans (by rw [← start]; rfl)
      | succ c => exact run c (Nat.lt_of_succ_lt_succ hc)
    · rintro ⟨u, start, last, run⟩
      have first := run 0 (Nat.succ_pos n)
      rw [start] at first
      rw [deviceCycles, first, andThen_next]
      exact (ih (u 1)).mpr ⟨fun c => u (c + 1), rfl, last, fun c hc => run (c + 1) (Nat.succ_lt_succ hc)⟩

theorem deviceCycles_fault_iff (n : Nat) (s : State) (f : Fault) : deviceCycles n s = .fault f ↔
    ∃ (u : Nat → State) (k : Nat), k < n ∧ u 0 = s ∧ (∀ c, c < k → deviceCycle (u c) = .next (u (c + 1))) ∧
      deviceCycle (u k) = .fault f := by
  induction n generalizing s with
  | zero =>
    constructor
    · intro h
      cases h
    · rintro ⟨-, k, hk, -⟩
      exact absurd hk (Nat.not_lt_zero k)
  | succ n ih =>
    constructor
    · intro h
      rw [deviceCycles] at h
      cases first : deviceCycle s with
      | fault f' =>
        rw [first, andThen_fault] at h
        cases h
        exact ⟨fun _ => s, 0, Nat.succ_pos n, rfl, fun _ hc => absurd hc (Nat.not_lt_zero _), first⟩
      | refused q =>
        rw [first] at h
        cases h
      | next s1 =>
        rw [first, andThen_next] at h
        obtain ⟨u, k, hk, start, run, last⟩ := (ih s1).mp h
        refine ⟨consTrace s u, k + 1, Nat.succ_lt_succ hk, rfl, fun c hc => ?_, last⟩
        cases c with
        | zero => exact first.trans (by rw [← start]; rfl)
        | succ c => exact run c (Nat.lt_of_succ_lt_succ hc)
    · rintro ⟨u, k, hk, start, run, last⟩
      rw [deviceCycles]
      cases k with
      | zero =>
        rw [start] at last
        rw [last, andThen_fault]
      | succ k =>
        have first := run 0 (Nat.succ_pos k)
        rw [start] at first
        rw [first, andThen_next]
        exact (ih (u 1)).mpr ⟨fun c => u (c + 1), k, Nat.lt_of_succ_lt_succ hk, rfl,
          fun c hc => run (c + 1) (Nat.succ_lt_succ hc), last⟩

/-- What `n` device cycles do to each device, and what they leave. -/
structure AfterCycles (s : State) (n : Nat) (t : State) : Prop where
  timer : t.timer = Timer.step^[n] s.timer
  position : s.ppu.sound → s.ppu.lcdOn = true → t.ppu.position = (s.ppu.position + n) % 70224
  off : s.ppu.lcdOn = false → t.ppu.ly = s.ppu.ly ∧ t.ppu.dot = s.ppu.dot ∧ t.ppu.mode = s.ppu.mode
  noOam : s.dma.oam = none → t.dma.oam = none
  oam : ∀ x, s.dma.oam = some x → x.index < 160 →
    t.dma.oam = if x.index + n < 160 then some { page := x.page, index := x.index + n } else none
  requests : ∀ k, s.iflag.getLsbD k = true → t.iflag.getLsbD k = true
  serial : t.iflag.getLsbD 3 = s.iflag.getLsbD 3
  frame : t = { s with timer := t.timer, ppu := t.ppu, iflag := t.iflag, dma := t.dma, mem := t.mem, draws := t.draws,
                       sched := { s.sched with frames := t.sched.frames, announced := t.sched.announced } }

theorem AfterCycles.refl (s : State) : AfterCycles s 0 s where
  timer := rfl
  position h _ := by rw [Nat.add_zero, Nat.mod_eq_of_lt (Ppu.position_lt h)]
  off _ := ⟨rfl, rfl, rfl⟩
  noOam h := h
  oam x h hi := by rw [h, Nat.add_zero, if_pos hi]
  requests _ h := h
  serial := rfl
  frame := rfl

/-- One cycle in front of `n` more. -/
theorem AfterCycles.cons {s s1 t : State} {n : Nat} (h : deviceCycle s = .next s1) (ih : AfterCycles s1 n t) :
    AfterCycles s (n + 1) t := by
  obtain ⟨timer, ppu, bits, frame⟩ := deviceCycle_eq_next h
  have oam := deviceCycle_oam h
  have more (k : Nat) : s1.iflag.getLsbD k = (s.iflag.getLsbD k ||
      (s.ppu.entersVblank (s.ppu.step s.oamByte) && decide (k = 0)) ||
      (s.ppu.raisesStat (s.ppu.step s.oamByte) s.launch.statLycInterrupt && decide (k = 1)) ||
      (s.timer.overflows && decide (k = 2))) := by rw [bits, ppuStep_bit]
  constructor
  case timer => rw [ih.timer, timer, Function.iterate_succ_apply]
  case position =>
    intro sound on
    obtain ⟨sound', on', -, -⟩ := Ppu.step_on s.ppu s.oamByte sound on
    rw [← ppu] at sound' on'
    rw [ih.position sound' on', ppu, Ppu.position_step _ sound on]
    omega
  case off =>
    intro off
    have stays : s1.ppu = { s.ppu with lycRose := false } := ppu.trans (Ppu.step_off _ _ off)
    have later := ih.off (by rw [stays]; exact off)
    rwa [stays] at later
  case noOam =>
    intro hs
    exact ih.noOam (by rw [oam, hs]; rfl)
  case oam =>
    intro x hs hi
    by_cases last : 160 ≤ x.index + 1
    · have ended : s1.dma.oam = none := by rw [oam, hs, Option.bind_some, OamXfer.advance, if_pos last]
      rw [ih.noOam ended, if_neg (by omega)]
    · have goes : s1.dma.oam = some { page := x.page, index := x.index + 1 } := by
        rw [oam, hs, Option.bind_some, OamXfer.advance, if_neg last]
      rw [ih.oam _ goes (by simp only; omega)]
      simp only [Nat.add_assoc, Nat.add_comm 1 n]
  case requests =>
    intro k hk
    exact ih.requests k (by rw [more, hk]; rfl)
  case serial =>
    rw [ih.serial, more]
    simp
  case frame =>
    have f := ih.frame
    rw [frame, Sched.afterFrame_frame] at f
    exact f

theorem afterCycles {n : Nat} {s t : State} (h : deviceCycles n s = .next t) : AfterCycles s n t := by
  induction n generalizing s with
  | zero =>
    cases h
    exact .refl t
  | succ n ih =>
    obtain ⟨s1, first, rest⟩ := andThen_eq_next h
    exact .cons first (ih rest)

/-- Settles O56: the phase is `deviceCycles` after the sampling, and `afterCycles` says what the cycles do. -/
theorem devicePhaseStepsEachDevice : Obligations.DevicePhaseStepsEachDevice := by
  unfold Obligations.DevicePhaseStepsEachDevice
  intro speed0 s n
  have phase : devicePhase speed0 s = deviceCycles n (padStep s) := rfl
  refine ⟨phase, fun _ => rfl, fun t => deviceCycles_next_iff n _ t, fun f => deviceCycles_fault_iff n _ f, fun t h => ?_⟩
  have after := afterCycles h
  have sampled := padStep_frame s
  have bit (k : Nat) := padStep_bit s k
  have timer : (padStep s).timer = s.timer := by rw [sampled]
  have ppu : (padStep s).ppu = s.ppu := by rw [sampled]
  have dma : (padStep s).dma = s.dma := by rw [sampled]
  obtain ⟨timer', position, off, noOam, oam, requests, serial, frame⟩ := after
  rw [timer] at timer'
  rw [ppu] at position off
  rw [dma] at noOam oam
  refine ⟨timer', position, off, noOam, oam, fun k hk => requests k (by rw [bit, hk]; rfl), ?_, ?_⟩
  · rw [serial, bit]
    simp
  · rw [sampled] at frame
    exact frame

end Sys2Proof.Machine
end

section
/-! PROOF. The DMA engine, 60_exceptions.md section 5: what a copied byte leaves readable, then one VRAM DMA step, the burst of
a general-purpose transfer and the 160 steps of an OAM transfer, each by induction on the bytes. -/

namespace Sys2Proof.Machine

variable {s t : State} {addr : Word}

/-! ### Where the plain storage lies -/

theorem ioLoc_ram {color : Bool} {n key : Nat} (h : ioLoc color n = .ram key) : key = n := by
  unfold ioLoc at h
  split at h
  · cases h
  · split_ifs at h
    cases h
    rfl

/-- The cell behind a storage address: VRAM's above 0x10000, external RAM's above 0x20000, every other below 0x10000, and
OAM's behind OAM alone. -/
theorem locate_ram_cases {key : Nat} (h : locate s addr = .ram key) :
    (0x8000 ≤ addr.toNat ∧ addr.toNat < 0xA000 ∧ 0x10000 ≤ key) ∨ 0x20000 ≤ key ∨
      (0xC000 ≤ addr.toNat ∧ key < 0x10000 ∧ (addr.toNat < 0xFE00 → key < 0xFE00)) := by
  have ext (hx : extLoc s.cart (addr.toNat - 0xA000) = .ram key) : 0x20000 ≤ key := by
    unfold extLoc at hx
    split at hx <;> cases hx
    exact Nat.le_add_right _ _
  unfold locate at h
  dsimp only at h
  split_ifs at h
  · injection h with h
    unfold Key.vram at h
    omega
  · exact .inr (.inl (ext h))
  · injection h with h
    omega
  · injection h with h
    omega
  · injection h with h
    unfold Key.oam at h
    omega
  · have := ioLoc_ram h
    omega
  · injection h with h
    omega

/-! ### What a copied byte leaves readable -/

/-- After DMA steps an address reads as before when its cell does, and with it every cell past VRAM's; the OAM trigger and
HDMA5, which show the transfers, aside. -/
theorem peek_of_dmaFrame (hf : DmaFrame s t) (hreg : t.dma.dmaReg = s.dma.dmaReg) (h55 : locate s addr ≠ .io .hdma5)
    (hc : ∀ key, locate s addr = .ram key ∨ 0x14000 ≤ key → t.cell key = s.cell key) (d : Byte) :
    peek d addr t = peek d addr s := by
  have launch : t.launch = s.launch := by rw [hf]
  have ppu : t.ppu = s.ppu := by rw [hf]
  have cart : t.cart = s.cart := by rw [hf]
  have place : locate t addr = locate s addr := locate_congr launch (by rw [ppu]) cart addr
  have fits := locate_keyFits s addr
  unfold peek
  rw [place]
  cases hl : locate s addr with
  | rom key =>
    rw [hl] at fits
    exact hc key (.inr (le_trans (by decide) fits))
  | ram key => exact hc key (.inl hl)
  | nibble key =>
    rw [hl] at fits
    simp only [hc key (.inr (le_trans (by decide) fits.1))]
  | rtc r => simp only [cart]
  | ie =>
    have ie : t.ie = s.ie := by rw [hf]
    simp only [ie]
  | io r =>
    have timer : t.timer = s.timer := by rw [hf]
    have apu : t.apu = s.apu := by rw [hf]
    have pad : t.pad = s.pad := by rw [hf]
    have iflag : t.iflag = s.iflag := by rw [hf]
    have speed : t.doubleSpeed = s.doubleSpeed ∧ t.speedArmed = s.speedArmed := by rw [hf]; exact ⟨rfl, rfl⟩
    have palettes (key : Nat) (hk : 0x14000 ≤ key) : t.cell key = s.cell key := hc key (.inr hk)
    cases r with
    | hdma5 => exact absurd hl h55
    | bcpd => exact (congrArg t.cell (by rw [ppu])).trans (palettes _ (le_trans (by decide) (Nat.le_add_right _ _)))
    | ocpd => exact (congrArg t.cell (by rw [ppu])).trans (palettes _ (le_trans (by decide) (Nat.le_add_right _ _)))
    | apu q => cases q <;> simp only [ioRead, apu]
    | dma => exact hreg
    | _ => simp only [ioRead, timer, pad, iflag, ppu, speed]
  | _ => rfl

/-! ### One VRAM DMA step, R494 to R497 -/

theorem VramXfer.exhausted_iff (x : VramXfer) : x.exhausted = true ↔ x.remaining = 0#16 ∨ 0x9FFF < x.dst.toNat := by
  simp only [VramXfer.exhausted, Bool.or_eq_true, decide_eq_true_eq]

/-- The state after one byte of a VRAM transfer. -/
def State.afterCopy (s : State) (x : VramXfer) : State :=
  { s with mem := Memory.write s.mem (Key.vram s.vramBank (x.dst.toNat - 0x8000)) (s.sourceByte s.draw x.src)
           draws := s.draws + 1
           dma := { s.dma with vram := x.advance } }

theorem vramDmaStep_general {x : VramXfer} (hx : s.dma.vram = some x) (hk : x.kind = .general) :
    vramDmaStep s = andThen (vramCopy x s) (vramBurst x.remaining.toNat) := by
  simp only [vramDmaStep, hx, hk, vramBurst]

theorem vramDmaStep_hblank {x : VramXfer} (hx : s.dma.vram = some x) (hk : x.kind = .hblank) :
    vramDmaStep s = vramHblank x s := by
  simp only [vramDmaStep, hx, hk]

theorem vramDmaStep_none (h : s.dma.vram = none) : vramDmaStep s = .next s := by simp only [vramDmaStep, h]

theorem VramXfer.advance_last {x : VramXfer} (h : x.remaining = 1#16) : x.advance = none := if_pos h

/-- The transfer with one byte moved. -/
def VramXfer.moved (x : VramXfer) : VramXfer :=
  { x with src := x.src + 1, dst := x.dst + 1, remaining := x.remaining - 1,
           lineCount := if x.kind = .hblank then x.lineCount + 1 else x.lineCount }

theorem VramXfer.advance_more {x : VramXfer} (h : x.remaining ≠ 1#16) : x.advance = some x.moved := if_neg h

theorem remaining_pred {r : Word} (h : r ≠ 0#16) : (r - 1).toNat = r.toNat - 1 := by bv_omega

/-- The rest of a general-purpose burst is the step of the state after one byte. -/
theorem vramBurst_afterCopy {x : VramXfer} (hk : x.kind = .general) (h0 : x.remaining ≠ 0#16) :
    vramBurst x.remaining.toNat (s.afterCopy x) = vramDmaStep (s.afterCopy x) := by
  by_cases last : x.remaining = 1#16
  · have none : (s.afterCopy x).dma.vram = none := VramXfer.advance_last last
    rw [vramDmaStep_none none, last]
    simp only [BitVec.toNat_ofNat, Nat.reducePow, Nat.reduceMod, vramBurst, none]
  · have more : (s.afterCopy x).dma.vram = some x.moved := VramXfer.advance_more last
    have count : x.remaining.toNat = (x.remaining - 1).toNat + 1 := by
      have := remaining_pred h0
      bv_omega
    rw [vramDmaStep_general more hk, count]
    simp only [vramBurst, more]
    rfl

/-- One byte of a general-purpose transfer, then the rest of it. -/
theorem vramDmaStep_copies {x : VramXfer} (hx : s.dma.vram = some x) (hk : x.kind = .general) (hn : ¬ x.exhausted = true)
    (hl : locate s x.src ≠ .undefined) : vramDmaStep s = vramDmaStep (s.afterCopy x) := by
  have left : x.remaining ≠ 0#16 := fun h => hn (x.exhausted_iff.mpr (.inl h))
  rw [vramDmaStep_general hx hk, (vramCopy_cases x s).2.2 (Bool.eq_false_iff.mpr hn) hl, andThen_next]
  exact vramBurst_afterCopy hk left

/-- Settles O49: the cases of `vramCopy_cases`, after which a general-purpose transfer goes on by `vramDmaStep_copies`. -/
theorem vramDmaStepByteByByte : Obligations.VramDmaStep := by
  unfold Obligations.VramDmaStep
  intro s x hx ended stopped next copied faulted
  have endedIff : x.exhausted = true ↔ ended := x.exhausted_iff
  have running (h : ¬ ended) : x.exhausted = false := Bool.eq_false_iff.mpr (h ∘ endedIff.mp)
  obtain ⟨stops, faults, copies⟩ := vramCopy_cases x s
  refine ⟨fun hk => ⟨fun he => ?_, fun he hu => ?_, fun he hd => vramDmaStep_copies hx hk (he ∘ endedIff.mp) hd⟩,
    fun hk => ?_⟩
  · rw [vramDmaStep_general hx hk, stops (endedIff.mpr he), andThen_next]
    cases x.remaining.toNat <;> rfl
  · rw [vramDmaStep_general hx hk, faults (running he) hu]
    rfl
  · intro runs
    have copying (h : runs) : vramDmaStep s = vramCopy x s := by
      obtain ⟨mode, on, quota⟩ := h
      rw [vramDmaStep_hblank hx hk, vramHblank, if_pos mode, on, decide_eq_true quota]
      rfl
    refine ⟨fun h he => ?_, fun h he hu => ?_, fun h he hd => ?_, fun h mode => ?_, fun mode => ?_⟩
    · rw [copying h, stops (endedIff.mpr he)]
    · rw [copying h, faults (running he) hu]
      rfl
    · rw [copying h, copies (running he) hd]
      rfl
    · have idle : ¬ (s.ppu.lcdOn && decide (x.lineCount < 16)) = true := fun hc => by
        rw [Bool.and_eq_true, decide_eq_true_eq] at hc
        exact h ⟨mode, hc⟩
      rw [vramDmaStep_hblank hx hk, vramHblank, if_pos mode, if_neg idle]
    · rw [vramDmaStep_hblank hx hk, vramHblank, if_neg mode]

/-! ### The burst of a general-purpose transfer, R494 -/

/-- A source address a general-purpose transfer may read without a fault or a look at the transfer itself. -/
def PlainSource (s : State) (addr : Word) : Prop :=
  locate s addr ≠ .undefined ∧ ¬ (0x8000 ≤ addr.toNat ∧ addr.toNat < 0xA000) ∧ addr ≠ 0xFF55#16

theorem locate_hdma5 (h : locate s addr = .io .hdma5) : addr = 0xFF55#16 := by
  have table : ∀ (color : Bool) (k : Fin 128), ioLoc color (0xFF00 + k.val) = .io .hdma5 → 0xFF00 + k.val = 0xFF55 := by
    decide +kernel
  obtain ⟨low, high⟩ := locate_io_range h
  have place := ioLoc_of_locate h
  have at55 := table s.launch.colorMode ⟨addr.toNat - 0xFF00, by omega⟩
  simp only [Nat.add_sub_cancel' low] at at55
  exact BitVec.eq_of_toNat_eq (at55 place)

theorem key_vram_bounds {bank : Bool} {off : Nat} (h : off < 0x2000) :
    0x10000 ≤ Key.vram bank off ∧ Key.vram bank off < 0x14000 := by
  unfold Key.vram
  cases bank <;> simp <;> omega

theorem dmaFrame_afterCopy (s : State) (x : VramXfer) : DmaFrame s (s.afterCopy x) := rfl

/-- A byte copied to VRAM leaves every plain source as it was. -/
theorem sourceByte_afterCopy {x : VramXfer} (hd : x.dst.toNat < 0xA000) (h : PlainSource s addr) (d : Byte) :
    (s.afterCopy x).sourceByte d addr = s.sourceByte d addr := by
  obtain ⟨-, notVram, not55⟩ := h
  have bounds := key_vram_bounds (bank := s.vramBank) (off := x.dst.toNat - 0x8000) (by omega)
  refine sourceByte_congr (s := s) (t := s.afterCopy x) rfl rfl
    (peek_of_dmaFrame (dmaFrame_afterCopy s x) rfl (not55 ∘ locate_hdma5) (fun key hk => ?_) d)
  refine Memory.read_write_other _ fun he => ?_
  rcases hk with hk | hk
  · have := locate_ram_cases hk
    omega
  · omega

/-- The bytes of a burst: `n` of them, to consecutive cells of VRAM, and nothing else. -/
structure BurstDone (s : State) (x : VramXfer) (n : Nat) (t : State) : Prop where
  copied : ∀ i, i < n → t.cell (Key.vram s.vramBank (x.dst.toNat - 0x8000 + i)) =
    s.sourceByte (Config.draw (s.draws + i)) (x.src + BitVec.ofNat 16 i)
  others : ∀ key, (∀ i, i < n → key ≠ Key.vram s.vramBank (x.dst.toNat - 0x8000 + i)) → t.cell key = s.cell key
  frame : t = { s with mem := t.mem, dma := { s.dma with vram := none }, draws := s.draws + n }

theorem key_vram_inj {bank : Bool} {a b : Nat} (h : Key.vram bank a = Key.vram bank b) : a = b := by
  unfold Key.vram at h
  omega

theorem moved_dst_toNat {x : VramXfer} (high : x.dst.toNat < 0xA000) : x.moved.dst.toNat = x.dst.toNat + 1 := by
  refine (BitVec.toNat_add x.dst 1).trans (Nat.mod_eq_of_lt ?_)
  change x.dst.toNat + 1 < 65536
  omega

theorem moved_src_add (x : VramXfer) (i : Nat) :
    x.moved.src + BitVec.ofNat 16 i = x.src + BitVec.ofNat 16 (i + 1) := by
  change x.src + 1 + _ = _
  rw [BitVec.ofNat_add, BitVec.add_assoc, BitVec.add_comm 1]
  rfl

theorem BurstDone.nil (s : State) (x : VramXfer) : BurstDone s x 0 { s with dma := { s.dma with vram := none } } :=
  ⟨fun _ hi => absurd hi (Nat.not_lt_zero _), fun _ _ => rfl, rfl⟩

theorem BurstDone.cons {x : VramXfer} {n : Nat} (hw : Memory.wf s.mem = true) (low : 0x8000 ≤ x.dst.toNat)
    (high : x.dst.toNat < 0xA000)
    (sources : ∀ i, i < n + 1 → PlainSource s (x.src + BitVec.ofNat 16 i)) (h : BurstDone (s.afterCopy x) x.moved n t) :
    BurstDone s x (n + 1) t := by
  have dst : x.moved.dst.toNat - 0x8000 = x.dst.toNat - 0x8000 + 1 := by
    rw [moved_dst_toNat high]
    omega
  have src (i : Nat) : x.moved.src + BitVec.ofNat 16 i = x.src + BitVec.ofNat 16 (i + 1) := moved_src_add x i
  have bank : (s.afterCopy x).vramBank = s.vramBank := rfl
  have cell (i : Nat) : Key.vram (s.afterCopy x).vramBank (x.moved.dst.toNat - 0x8000 + i) =
      Key.vram s.vramBank (x.dst.toNat - 0x8000 + (i + 1)) := by rw [bank, dst, Nat.add_assoc, Nat.add_comm 1 i]
  refine ⟨fun i hi => ?_, fun key hk => ?_, ?_⟩
  · cases i with
    | zero =>
      rw [h.others _ fun j hj he => ?_]
      · rw [Nat.add_zero, Nat.add_zero, BitVec.add_zero]
        exact Memory.read_write_same _ _ hw
      · rw [cell j] at he
        have := key_vram_inj he
        omega
    | succ i =>
      have done := h.copied i (Nat.lt_of_succ_lt_succ hi)
      rw [cell i, src i, sourceByte_afterCopy high (sources (i + 1) hi)] at done
      rw [done]
      exact congrArg (fun k => s.sourceByte (Config.draw k) _) (by change s.draws + 1 + i = _; omega)
  · rw [h.others key fun i hi he => hk (i + 1) (Nat.succ_lt_succ hi) (he.trans (cell i))]
    have first := hk 0 (Nat.succ_pos n)
    rw [Nat.add_zero] at first
    exact Memory.read_write_other _ first
  · have f := h.frame
    rw [f]
    simp only [State.afterCopy, Nat.add_assoc, Nat.add_comm 1 n]

/-- A transfer with nothing left to copy ends without a byte. -/
theorem vramDmaStep_exhausted {x : VramXfer} (hx : s.dma.vram = some x) (hk : x.kind = .general) (he : x.exhausted = true) :
    vramDmaStep s = .next { s with dma := { s.dma with vram := none } } := by
  rw [vramDmaStep_general hx hk, (vramCopy_cases x s).1 he, andThen_next]
  cases x.remaining.toNat <;> rfl

theorem remaining_ne_zero {x : VramXfer} {n : Nat} (hn : min x.remaining.toNat (0xA000 - x.dst.toNat) = n + 1) :
    x.remaining ≠ 0#16 := fun h => by
  rw [h] at hn
  simp at hn

/-- The first byte of a burst in front of the rest. -/
theorem vramDmaStep_cons {n : Nat} {x : VramXfer} (hw : Memory.wf s.mem = true) (hx : s.dma.vram = some x)
    (hk : x.kind = .general) (low : 0x8000 ≤ x.dst.toNat) (high : x.dst.toNat < 0xA000) (left : x.remaining ≠ 0#16)
    (sources : ∀ i, i < n + 1 → PlainSource s (x.src + BitVec.ofNat 16 i))
    (rest : ∃ t, vramDmaStep (s.afterCopy x) = .next t ∧ BurstDone (s.afterCopy x) x.moved n t) :
    ∃ t, vramDmaStep s = .next t ∧ BurstDone s x (n + 1) t := by
  have running : ¬ x.exhausted = true := fun h => (x.exhausted_iff.mp h).elim left (by omega)
  have first := (sources 0 (Nat.succ_pos n)).1
  rw [BitVec.add_zero] at first
  obtain ⟨t, run, done⟩ := rest
  exact ⟨t, (vramDmaStep_copies hx hk running first).trans run, .cons hw low high sources done⟩

/-- A general-purpose transfer with plain sources copies its bytes and is over. -/
theorem vramDmaStep_burst {n : Nat} {x : VramXfer} (hw : Memory.wf s.mem = true) (hx : s.dma.vram = some x)
    (hk : x.kind = .general) (low : 0x8000 ≤ x.dst.toNat) (high : x.dst.toNat < 0xA000)
    (hn : min x.remaining.toNat (0xA000 - x.dst.toNat) = n + 1)
    (sources : ∀ i, i < n + 1 → PlainSource s (x.src + BitVec.ofNat 16 i)) :
    ∃ t, vramDmaStep s = .next t ∧ BurstDone s x (n + 1) t := by
  induction n generalizing s x with
  | zero =>
    refine vramDmaStep_cons hw hx hk low high (remaining_ne_zero hn) sources ⟨_, ?_, .nil _ _⟩
    by_cases last : x.remaining = 1#16
    · have ended : (s.afterCopy x).dma.vram = none := VramXfer.advance_last last
      rw [vramDmaStep_none ended, ← ended]
    · have notOne : x.remaining.toNat ≠ 1 := fun h => last (BitVec.eq_of_toNat_eq h)
      have dst := moved_dst_toNat high
      exact vramDmaStep_exhausted (VramXfer.advance_more last) hk (x.moved.exhausted_iff.mpr (.inr (by omega)))
  | succ n ih =>
    have left := remaining_ne_zero hn
    have dst := moved_dst_toNat high
    have remaining : x.moved.remaining.toNat = x.remaining.toNat - 1 := remaining_pred left
    have more : x.remaining ≠ 1#16 := fun h => by
      have one : x.remaining.toNat = 1 := congrArg BitVec.toNat h
      omega
    refine vramDmaStep_cons hw hx hk low high left sources (ih (Memory.wf_write _ _ hw) (VramXfer.advance_more more) hk
      (by omega) (by omega) (by omega) fun i hi => ?_)
    rw [moved_src_add]
    exact sources (i + 1) (Nat.succ_lt_succ hi)

/-- Settles O48: with no OAM transfer the step is the VRAM transfer's, one burst by `vramDmaStep_burst`. -/
theorem generalVramDma : Obligations.GeneralVramDma := by
  unfold Obligations.GeneralVramDma
  intro s x hw hoam hx hk pos low high n sources
  obtain ⟨m, hm⟩ : ∃ m, n = m + 1 := ⟨n - 1, by omega⟩
  have step : dmaStep s = vramDmaStep s := by simp only [dmaStep, oamDmaStep, hoam, andThen_next]
  rw [hm] at sources
  obtain ⟨t, run, done⟩ := vramDmaStep_burst hw hx hk low high hm sources
  rw [hm]
  exact ⟨t, step.trans run, done.copied, done.others, done.frame⟩

/-! ### OAM DMA, R491 and R492 -/

/-- Every source of an OAM transfer lies below the WRAM mirror. -/
theorem oamSource_lt {page : Byte} (hp : page.toNat < 0xE0) (k : Nat) :
    (page ++ BitVec.ofNat 8 k : BitVec (8 + 8)).toNat < 0xE000 := by
  rw [toNat_append_eq_add, BitVec.toNat_ofNat]
  omega

/-- The state after `k` bytes of an OAM transfer from `page`. -/
structure OamCopied (s : State) (page : Byte) (k : Nat) (t : State) : Prop where
  wf : Memory.wf t.mem = true
  copied : ∀ i, i < k → t.oamByte i = s.sourceByte (Config.draw (s.draws + i)) (page ++ BitVec.ofNat 8 i)
  others : ∀ key, (∀ i, i < k → key ≠ Key.oam i) → t.cell key = s.cell key
  frame : t = { s with mem := t.mem, draws := s.draws + k
                       dma := { s.dma with oam := if k < 160 then some { page := page, index := k } else none } }

/-- No byte that has reached OAM changes a source. -/
theorem OamCopied.sourceByte {page : Byte} {k : Nat} (h : OamCopied s page k t) (hk : k ≤ 160) (hp : addr.toNat < 0xE000)
    (d : Byte) : t.sourceByte d addr = s.sourceByte d addr := by
  have launch : t.launch = s.launch := by rw [h.frame]
  have ppu : t.ppu = s.ppu := by rw [h.frame]
  have trigger : t.dma.dmaReg = s.dma.dmaReg := by rw [h.frame]
  have frame : DmaFrame s t := by
    unfold DmaFrame
    rw [h.frame]
  refine sourceByte_congr launch ppu (peek_of_dmaFrame frame trigger (fun h55 => ?_) (fun key hkey => ?_) d)
  · have := (locate_io_range h55).1
    omega
  · refine h.others key fun i hi he => ?_
    unfold Key.oam at he
    rcases hkey with place | past
    · have := locate_ram_cases place
      omega
    · omega

/-- One OAM DMA step of a running transfer. -/
theorem oamDmaStep_running {x : OamXfer} (hx : s.dma.oam = some x) (hd : locate s x.source ≠ .undefined) :
    oamDmaStep s = .next { s with mem := Memory.write s.mem (Key.oam x.index) (s.sourceByte s.draw x.source)
                                  draws := s.draws + 1
                                  dma := { s.dma with oam := x.advance } } := by
  simp only [oamDmaStep, hx, busRead, busReadFault, hd, if_false, withValue_ok, busByte_eq]
  rfl

theorem OamXfer.advance_eq (x : OamXfer) :
    x.advance = if x.index + 1 < 160 then some { page := x.page, index := x.index + 1 } else none := by
  unfold OamXfer.advance
  split_ifs <;> first | rfl | omega

/-- The next byte of an OAM transfer. -/
theorem OamCopied.next {page : Byte} {k : Nat} (h : OamCopied s page k t) (hk : k < 160) (hp : page.toNat < 0xE0)
    (hv : s.dma.vram = none) : ∃ u, dmaStep t = .next u ∧ OamCopied s page (k + 1) u := by
  have running : t.dma.oam = some { page := page, index := k } := by rw [h.frame, if_pos hk]
  have source : OamXfer.source { page := page, index := k } = page ++ BitVec.ofNat 8 k :=
    OamXfer.source_eq _ (lt_trans hk (by decide))
  have low := oamSource_lt hp k
  have defined : locate t (OamXfer.source { page := page, index := k }) ≠ .undefined := fun hu => by
    have := (locate_undefined_range hu).1
    rw [source] at this
    omega
  have byte (d : Byte) : t.sourceByte d (page ++ BitVec.ofNat 8 k) = s.sourceByte d (page ++ BitVec.ofNat 8 k) :=
    h.sourceByte hk.le low d
  have draw : t.draw = Config.draw (s.draws + k) := by rw [h.frame]; rfl
  have step := oamDmaStep_running running defined
  rw [source, byte, draw] at step
  refine ⟨_, by rw [dmaStep, step, andThen_next, vramDmaStep_none]; rw [h.frame]; exact hv, ?_⟩
  refine ⟨Memory.wf_write _ _ h.wf, fun i hi => ?_, fun key hkey => ?_, ?_⟩
  · obtain hlt | rfl : i < k ∨ i = k := by omega
    · rw [← h.copied i hlt]
      have ne : Key.oam i ≠ Key.oam k := by unfold Key.oam; omega
      exact Memory.read_write_other _ ne
    · exact Memory.read_write_same _ _ h.wf
  · rw [← h.others key fun i hi => hkey i (Nat.lt_succ_of_lt hi)]
    exact Memory.read_write_other _ (hkey k (Nat.lt_succ_self k))
  · rw [h.frame, OamXfer.advance_eq]
    rfl

theorem oamCopied {page : Byte} (hw : Memory.wf s.mem = true) (hp : page.toNat < 0xE0)
    (hx : s.dma.oam = some { page := page, index := 0 }) (hv : s.dma.vram = none) {k : Nat} (hk : k ≤ 160) :
    ∃ t, dmaSteps k s = .next t ∧ OamCopied s page k t := by
  induction k with
  | zero =>
    refine ⟨s, rfl, hw, fun _ hi => absurd hi (Nat.not_lt_zero _), fun _ _ => rfl, ?_⟩
    rw [if_pos (by decide), ← hx]
    rfl
  | succ k ih =>
    obtain ⟨t, run, copied⟩ := ih (Nat.le_of_succ_le hk)
    obtain ⟨u, step, copied'⟩ := copied.next hk hp hv
    exact ⟨u, by rw [dmaSteps, run, andThen_next, step], copied'⟩

/-- Settles O46: `oamCopied` after each number of steps. -/
theorem oamDmaCopies160 : Obligations.OamDmaCopies160 := by
  unfold Obligations.OamDmaCopies160
  intro s page hw hp hx hv
  refine ⟨fun k hk => ?_, ?_⟩
  · obtain ⟨t, run, copied⟩ := oamCopied hw hp hx hv hk.le
    refine ⟨t, run, ?_⟩
    rw [ramBusy, copied.frame, if_pos hk]
    rfl
  · obtain ⟨t, run, copied⟩ := oamCopied hw hp hx hv (le_refl 160)
    refine ⟨t, run, ?_, copied.copied, copied.others, copied.frame⟩
    rw [ramBusy, copied.frame]
    rfl

end Sys2Proof.Machine
end

section
/-! PROOF. Reset, launch and the loader, 70_reset_and_hazards.md section 1 and 20_memory.md sections 4 and 5. -/

namespace Sys2Proof.Machine

/-! ### The machine after reset, R600 to R603 -/

/-- A launch is `launchWith` but for the cartridge and the fault record. -/
theorem launchState_eq (x : LaunchInput) : ∃ c r, launchState x = { launchWith x c with fault := r } := by
  unfold launchState
  split
  · exact ⟨_, _, rfl⟩
  · exact ⟨_, _, rfl⟩

theorem reset_eq_launchState : State.reset = launchState emptyLaunch := by decide

theorem colorMode_iff (x : LaunchInput) : x.colorMode = true ↔ x.imageByte 0x146 ∈ x.colorValues := List.contains_iff_mem

theorem drawnKey_iff (key : Nat) : drawnKey key = true ↔
    (0xC000 ≤ key ∧ key < 0xE000) ∨ (0xFE00 ≤ key ∧ key < 0xFEA0) ∨ (0xFF30 ≤ key ∧ key < 0xFF40) ∨
      (0xFF80 ≤ key ∧ key < 0xFFFF) ∨ (0x10000 ≤ key ∧ key < 0x14000) ∨ (0x50000 ≤ key ∧ key < 0x50080) :=
  decide_eq_true_iff

theorem powered_bit (v : Byte) {k : Nat} (hk : k < 7) : (v ||| 0x80#8).getLsbD k = v.getLsbD k := by
  rw [BitVec.getLsbD_or]
  interval_cases k <;> simp

theorem powered (v : Byte) : (v ||| 0x80#8).getLsbD 7 = true := by
  rw [BitVec.getLsbD_or]
  simp

/-- Settles O1: a launch field by field, the storage by the `launchMemory_` lemmas. -/
theorem resetState : Obligations.ResetState := by
  unfold Obligations.ResetState
  intro x s hs
  have launched : s = launchState x := by
    rcases hs with hs | ⟨hs, hx⟩
    · exact hs
    · rw [hs, hx, reset_eq_launchState]
  obtain ⟨c, r, eq⟩ := launchState_eq x
  rw [eq] at launched
  subst launched
  have color : (launchWith x c).launch.colorMode = x.colorMode := rfl
  refine ⟨fun h => ?mono, fun h => ?colour, colorMode_iff x, rfl, rfl, rfl, rfl, rfl, rfl, rfl, rfl, rfl, rfl, rfl,
    launchMemory_rom x, fun off h => launchMemory_extRam x h, fun n h => launchMemory_ram x ((drawnKey_iff n).mpr ?ram),
    fun bank off h => launchMemory_ram x ((drawnKey_iff _).mpr ?vram),
    fun i h => ⟨launchMemory_ram x ((drawnKey_iff _).mpr ?bg), launchMemory_ram x ((drawnKey_iff _).mpr ?obj)⟩,
    fun i h => ?nibble, rfl, rfl, rfl, rfl, rfl, rfl, rfl, rfl, rfl, rfl, rfl, rfl, rfl, rfl, rfl, rfl, rfl, rfl,
    powered _, rfl, fun k hk => powered_bit _ hk, rfl, rfl, rfl, rfl⟩
  case mono =>
    have off : x.colorMode = false := h
    have regs : (launchWith x c).regs = resetRegs := by simp only [launchWith, off, Bool.false_eq_true, if_false]
    have flags : (launchWith x c).flags = resetFlags := by simp only [launchWith, off, Bool.false_eq_true, if_false]
    simp only [State.bc, State.de, State.hl, regs, flags]
    decide
  case colour =>
    have on : x.colorMode = true := h
    simp only [launchWith, on, if_true, and_self]
  case ram => omega
  case vram =>
    have := key_vram_bounds (bank := bank) h
    omega
  case bg => unfold Key.bgPal; omega
  case obj => unfold Key.objPal; omega
  case nibble =>
    have drawn : drawnNibble (Key.mbc2 i) = true := decide_eq_true (by unfold Key.mbc2; omega)
    refine (congrArg BitVec.toNat (launchMemory_nibble x drawn)).trans ?_
    rw [toNat_append_eq_add, lowBits_toNat]
    simp

/-! ### The header, 20_memory.md R106, R107 and R114 -/

/-- Which controller each type byte names, and which bytes name none. -/
theorem controller_iff : ∀ byte : Byte,
    ((cartType byte).map CartType.controller = some .romOnly ↔ byte.toNat ∈ [0x00, 0x08, 0x09]) ∧
    ((cartType byte).map CartType.controller = some .mbc1 ↔ byte.toNat ∈ [0x01, 0x02, 0x03]) ∧
    ((cartType byte).map CartType.controller = some .mbc2 ↔ byte.toNat ∈ [0x05, 0x06]) ∧
    ((cartType byte).map CartType.controller = some .mbc3 ↔ byte.toNat ∈ [0x0F, 0x10, 0x11, 0x12, 0x13]) ∧
    ((cartType byte).map CartType.controller = some .mbc5 ↔ byte.toNat ∈ [0x19, 0x1A, 0x1B, 0x1C, 0x1D, 0x1E]) := by
  decide +kernel

/-- The type bytes of the table are those of the five controllers. -/
theorem known_iff : ∀ byte : Byte,
    byte.toNat ∈ [0x00, 0x08, 0x09] ++ [0x01, 0x02, 0x03] ++ [0x05, 0x06] ++ [0x0F, 0x10, 0x11, 0x12, 0x13] ++
      [0x19, 0x1A, 0x1B, 0x1C, 0x1D, 0x1E] ↔ (cartType byte).isSome = true := by decide +kernel

theorem ramBytes_eq : ∀ byte : Byte,
    ramBytes byte = if byte.toNat ≤ 3 then some ([0, 0x800, 0x2000, 0x8000].getD byte.toNat 0) else none := by
  decide +kernel

theorem launchState_of_ok {x : LaunchInput} {c : Cart} (h : x.header.cart = .ok c) : launchState x = launchWith x c := by
  unfold launchState
  rw [h]

theorem launchState_of_error {x : LaunchInput} {byte : Byte} (h : x.header.cart = .error byte) :
    launchState x = { launchWith x State.reset.cart with fault := some (.cartridgeConfig byte) } := by
  unfold launchState
  rw [h]

theorem cart_of_unknown {h : Header} (ht : cartType h.kind = none) : h.cart = .error h.kind := by
  unfold Header.cart
  rw [ht]

theorem cart_of_large {h : Header} {t : CartType} (ht : cartType h.kind = some t) (hr : 3 < h.ramSize.toNat) :
    h.cart = .error h.ramSize := by
  have large : ramBytes h.ramSize = none := by rw [ramBytes_eq, if_neg (not_le.mpr hr)]
  unfold Header.cart
  rw [ht]
  simp only [large]

theorem cart_of_accepted {h : Header} {t : CartType} (ht : cartType h.kind = some t) (hr : h.ramSize.toNat ≤ 3) :
    h.cart = .ok { mapper := t.controller.initial, romBanks := romBytes h.romSize / 0x4000,
                   ramBytes := [0, 0x800, 0x2000, 0x8000].getD h.ramSize.toNat 0 } := by
  have size : ramBytes h.ramSize = some ([0, 0x800, 0x2000, 0x8000].getD h.ramSize.toNat 0) := by
    rw [ramBytes_eq, if_pos hr]
  unfold Header.cart
  rw [ht]
  simp only [size]

/-- The ROM has two banks for every 32 KB. -/
theorem romBanks_eq (byte : Byte) : romBytes byte / 0x4000 = 2 * 2 ^ byte.toNat := by
  rw [romBytes, Nat.shiftLeft_eq]
  omega

theorem initial_romBank (c : Controller) : c.initial.romBank = 1 := by cases c <;> rfl

/-- Every controller but the plain one starts with its RAM disabled. -/
theorem initial_extRam {c : Cart} {k : Controller} (hm : c.mapper = k.initial) (hk : k ≠ .romOnly) (off : Nat) :
    c.extRam off = .absent := by
  unfold Cart.extRam
  rw [hm]
  cases k with
  | romOnly => exact absurd rfl hk
  | mbc1 | mbc2 | mbc3 | mbc5 => rfl

theorem initial_iff (k : Controller) :
    (k = .romOnly ↔ k.initial = .romOnly) ∧
    (k = .mbc1 ↔ ∃ low5 high2, k.initial = .mbc1 low5 high2 false false) ∧
    (k = .mbc2 ↔ k.initial = .mbc2 1 false) ∧
    (k = .mbc3 ↔ ∃ sel rtc, k.initial = .mbc3 1 sel false rtc ∧ sel = 0#8) ∧
    (k = .mbc5 ↔ k.initial = .mbc5 1 0 false) := by
  cases k <;> simp [Controller.initial]

/-- Settles O2: the header's three outcomes by the `cart_of_` lemmas, the accepted controller by `controller_iff`. -/
theorem loaderChecksHeader : Obligations.LoaderChecksHeader := by
  unfold Obligations.LoaderChecksHeader
  intro x kind ram s romOnly mbc1 mbc2 mbc3 mbc5
  have controllers := controller_iff (x.imageByte 0x147)
  refine ⟨rfl, fun i hi => ?title, ?colour, fun h => ?unknown, fun h hr => ?large, fun h hr => ?accepted,
    fun r hr => step_of_fault hr⟩
  case title => simp [LaunchInput.header, readHeader, hi]
  case colour =>
    obtain ⟨c, r, eq⟩ := launchState_eq x
    simp only [s, eq]
    exact colorMode_iff x
  case unknown =>
    have none : cartType (x.imageByte 0x147) = none := Option.not_isSome_iff_eq_none.mp (h ∘ (known_iff _).mpr)
    simp only [s, launchState_of_error (cart_of_unknown (h := x.header) none)]
    rfl
  case large =>
    obtain ⟨t, ht⟩ := Option.isSome_iff_exists.mp ((known_iff _).mp h)
    simp only [s, launchState_of_error (cart_of_large (h := x.header) ht hr)]
    rfl
  case accepted =>
    obtain ⟨t, ht⟩ := Option.isSome_iff_exists.mp ((known_iff _).mp h)
    rw [ht, Option.map_some] at controllers
    simp only [Option.some.injEq] at controllers
    obtain ⟨isRom, is1, is2, is3, is5⟩ := controllers
    obtain ⟨initRom, init1, init2, init3, init5⟩ := initial_iff t.controller
    simp only [s, launchState_of_ok (cart_of_accepted (h := x.header) ht hr)]
    have banks : romBytes x.header.romSize / 0x4000 = 2 * 2 ^ (x.imageByte 0x148).toNat := romBanks_eq _
    refine ⟨rfl, ?_, rfl, ?_, fun hk => initial_extRam rfl (hk ∘ isRom.mp), isRom.symm.trans initRom, is1.symm.trans init1,
      is2.symm.trans init2, is3.symm.trans init3, is5.symm.trans init5⟩
    · change romBytes x.header.romSize / 0x4000 * 0x4000 = _
      rw [banks]
      omega
    · change t.controller.initial.romBank % (romBytes x.header.romSize / 0x4000) = 1
      have two : 1 < 2 * 2 ^ (x.imageByte 0x148).toNat := by
        have := Nat.two_pow_pos (x.imageByte 0x148).toNat
        omega
      rw [banks, initial_romBank, Nat.mod_eq_of_lt two]

end Sys2Proof.Machine
end
